-- ==== Sys2Proof/Word.lean ====
section
/-! DEFINITION. The stored widths of the core (00_scope.md R8) and its normative constants (R5). -/

namespace Sys2Proof

/-- A byte of the register window or of a frame. -/
abbrev Byte := BitVec 8

/-- A stored `i16` (R8): the signed value is `BitVec.toInt`. -/
abbrev I16 := BitVec 16

/-- A stored `i32` (R8): the signed value is `BitVec.toInt`. -/
abbrev I32 := BitVec 32

/-- `FRAME_LEN` (R5): samples of one frame. -/
abbrev frameLen : Nat := 240

/-- `SUBFRAME_LEN` (R5). -/
abbrev subframeLen : Nat := 60

/-- `LPC_ORDER` (R5). -/
abbrev lpcOrder : Nat := 10

/-- `PITCH_MIN` (R5). -/
abbrev pitchMin : Nat := 18

/-- `PITCH_MAX` (R5): the length of the excitation history. -/
abbrev pitchMax : Nat := 146

/-- `PULSE_MAX` (R5). -/
abbrev pulseMax : Nat := 6

/-- `GAIN_LEVELS` (R5). -/
abbrev gainLevels : Nat := 24

/-- `PITCH_MAX + FRAME_LEN`: the length of the excitation buffer `E` (R49). -/
abbrev excLen : Nat := 386

/-- `LPC_ORDER + FRAME_LEN`: the length of the buffers `A` and `F` (R49). -/
abbrev audioLen : Nat := 250

/-- `FrameType` (R6). -/
inductive FrameType where
  | active
  | sid
  | untransmitted
  deriving DecidableEq, Repr, Inhabited

/-- `Rate` (R6). -/
inductive Rate where
  | r6300
  | r5300
  deriving DecidableEq, Repr, Inhabited

end Sys2Proof
end

