-- ==== Sys2Proof/Config.lean ====
section
/-! DEFINITION. What is fixed before reset and never changes (00_scope.md R7, 70_reset_and_hazards.md R435): the ROM tables of
10_state.md R50 and the open parameters of 92_eei_decisions.md section 3. The contents at reset are opaque. -/

namespace Sys2Proof

/-- `cos_tab[COS_TAB_LEN]` with its length, the parameter `COS_TAB_LEN` (R50, 92_eei_decisions.md D12). -/
structure CosTable where
  len : Nat
  entries : Vector I16 len
  deriving DecidableEq, Repr, Inhabited

/-- The ROM tables whose contents are model parameters, each of the stated shape and element width (R50, D38). -/
structure Rom where
  lspBand0 : Vector (Vector I16 3) 256
  lspBand1 : Vector (Vector I16 3) 256
  lspBand2 : Vector (Vector I16 4) 256
  dcLsp : Vector I16 10
  cosTab : CosTable
  fixedCbGain : Vector I16 24
  adaptiveCbGain85 : Vector I16 1700
  adaptiveCbGain170 : Vector I16 3400
  pitchContrib : Vector I16 340
  postfilterFir : Vector I16 10
  postfilterIir : Vector I16 10
  cngFilt : Vector I16 4
  cngBseg : Vector I32 3
  deriving DecidableEq, Repr, Inhabited

/-- The values of `PPF_CASE3_ROUNDING` (45_postfilter.md R292). -/
inductive Case3Rounding where
  | exact
  | rounded
  deriving DecidableEq, Repr, Inhabited

/-- The choice of a parameter that is a function (`CNG_AMPLITUDE`, `ESTIMATE_SID_GAIN`; 92_eei_decisions.md D35, D36): the
algorithm of the spec's rules, or a function the spec does not give. -/
inductive Algorithm where
  | rules
  | unspecified
  deriving DecidableEq, Repr, Inhabited

/-- Everything a model takes as an argument (R7). Each parameter with several values has exactly the values of
92_eei_decisions.md section 3: a `Bool` is `false` for the first value and `true` for the second. -/
structure Params where
  rom : Rom
  /-- `cng_adaptive_cb_lag` (R51). R51 gives no element type; 2 bits are the model's choice: log entry 18. -/
  cngAdaptiveCbLag : Vector (BitVec 2) 4
  /-- `ppf_gain_weight[R6300]` (R51). R51 gives no element type; a signed 16-bit value is the model's choice: log entry 18. -/
  ppfGainWeight6300 : I16
  /-- `ppf_gain_weight[R5300]` (R51), a signed 16-bit value by the model's choice: log entry 18. -/
  ppfGainWeight5300 : I16
  /-- `PPF_TEST_SHIFT`: 0 or 1 (R293). -/
  ppfTestShift : Bool
  /-- `PPF_CASE3_ROUNDING` (R292). -/
  ppfCase3Rounding : Case3Rounding
  /-- `FPF_COEF_RND`: 0 or 2^14 (R311). -/
  fpfCoefRnd : Bool
  /-- `FPF_REFL_SHIFT`: 0 or 2 (R315). -/
  fpfReflShift : Bool
  /-- `CNG_GAIN_RESET`: 0 or 1 (R362). -/
  cngGainReset : Bool
  /-- `CNG_AMPLITUDE` (R351–R355). -/
  cngAmplitude : Algorithm
  /-- `ESTIMATE_SID_GAIN` (R360). -/
  estimateSidGain : Algorithm
  deriving DecidableEq, Repr, Inhabited

namespace Config

/-- The ROM contents but for the cosine table (D38: no values are given). UNVERIFIED free values: log entry 3. -/
opaque romContents : Rom

/-- The contents of the cosine table of the default length 256 (D12, D38). UNVERIFIED free values: log entry 3. -/
opaque cosContents : Vector I16 256

/-- The ROM at reset: opaque contents; `COS_TAB_LEN` is the spec's default 256 (92_eei_decisions.md section 3). -/
def resetRom : Rom := { romContents with cosTab := { len := 256, entries := cosContents } }

/-- The parameters at reset: the spec's defaults (92_eei_decisions.md section 3; 10_state.md R51). Log entries 4, 5, 6. -/
def resetParams : Params where
  rom := resetRom
  cngAdaptiveCbLag := #v[1, 0, 1, 3]
  ppfGainWeight6300 := 0x1800
  ppfGainWeight5300 := 0x2000
  ppfTestShift := false
  ppfCase3Rounding := .exact
  fpfCoefRnd := false
  fpfReflShift := false
  cngGainReset := false
  cngAmplitude := .rules
  estimateSidGain := .rules

/-- `CNG_AMPLITUDE` where it is not the algorithm of the rules: some function of the pair's excitation, positions, signs and
`cur_gain` (92_eei_decisions.md section 3). A free value: log entry 6. -/
opaque otherCngAmplitude (v : List Int) (pos : List Nat) (sign : List Int) (curGain : Int) : Int

/-- `ESTIMATE_SID_GAIN` where it is not the algorithm of the rules: some function of `sid_gain`, `cur_gain` and the ROM to
[0, 63] (92_eei_decisions.md section 3). A free value: log entry 6. -/
opaque otherSidGain (sidGain curGain : Int) (rom : Rom) : BitVec 6

end Config

end Sys2Proof
end

