-- ==== Sys2Proof/Machine/State.lean ====
section
/-! DEFINITION. The state of the core: the persistent state `S` (10_state.md R30–R46), the host registers (R48), the ROM and the
parameters (R50, 20_memory.md R70), the host's pending accesses, and the ways a step can stop. -/

namespace Sys2Proof.Machine

/-- One record of subframe parameters (R39). -/
structure Subframe where
  adCbLag : BitVec 2
  adCbGain : BitVec 8
  ampIndex : BitVec 6
  diracTrain : BitVec 1
  gridIndex : BitVec 1
  pulseSign : BitVec 8
  pulsePos : BitVec 32
  deriving DecidableEq, Repr, Inhabited

/-- The persistent decoder state `S` (R30–R46). -/
structure Persistent where
  /-- R31 -/
  prevLsp : Vector I16 10
  /-- R32 -/
  sidLsp : Vector I16 10
  /-- R33 -/
  curFrameType : FrameType
  /-- R33 -/
  pastFrameType : FrameType
  /-- R34 -/
  curRate : Rate
  /-- R35 -/
  prevExcitation : Vector I16 146
  /-- R36 -/
  synthMem : Vector I16 10
  /-- R37 -/
  firMem : Vector I16 10
  /-- R37 -/
  iirMem : Vector I32 10
  /-- R38 -/
  pitchLag : Vector (BitVec 8) 2
  /-- R39 -/
  subframe : Vector Subframe 4
  /-- R40 -/
  lspIndex : Vector (BitVec 8) 3
  /-- R41 -/
  erasedFrames : Nat
  /-- R42 -/
  interpGain : I32
  /-- R42 -/
  interpIndex : I32
  /-- R43 -/
  sidGain : I32
  /-- R43 -/
  curGain : I32
  /-- R44 -/
  reflectionCoef : I32
  /-- R44 -/
  pfGain : I32
  /-- R45, signed -/
  randomSeed : I16
  /-- R45, unsigned -/
  cngRandomSeed : BitVec 16
  /-- R46: also `CONFIG.PF` -/
  postfilter : Bool
  deriving DecidableEq, Repr, Inhabited

/-- The values of `STATUS.ERR` that occur (R48; 60_exceptions.md R400: 3 is never produced). -/
inductive StatusErr where
  | ok
  | shortFrame
  | badCommand
  deriving DecidableEq, Repr, Inhabited

/-- The host registers that store something (R48). `CMD` stores nothing and reads 0 (log entry 9), `CONFIG` is
`Persistent.postfilter`, and `STATUS` is a view of `err`, `bad` and `Persistent.pastFrameType`. -/
structure HostRegs where
  inLen : BitVec 8
  inBytes : Vector Byte 24
  err : StatusErr
  bad : Bool
  consumed : BitVec 8
  samples : BitVec 16
  out : Vector I16 240
  deriving DecidableEq, Repr, Inhabited

/-- The width of a host access (20_memory.md R74). -/
inductive AccessWidth where
  | one
  | two
  | four
  deriving DecidableEq, Repr, Inhabited

/-- One host access of the register window (R74, R75). -/
inductive HostAccess where
  | read (offset : Nat) (width : AccessWidth)
  | write (offset : Nat) (width : AccessWidth) (value : BitVec 32)
  deriving DecidableEq, Repr, Inhabited

/-- The state of the machine. -/
structure State where
  /-- the persistent state `S` (R30) -/
  core : Persistent
  /-- the host registers (R48) -/
  regs : HostRegs
  /-- the ROM tables (R50, 20_memory.md R70(c)) and the open parameters; no step changes them (log entry 2) -/
  params : Params
  /-- the model's own: the host's accesses that are not yet performed, in program order (R78; log entry 1) -/
  pending : List HostAccess
  /-- the model's own: what the host's last read returned (R75; log entry 13) -/
  readData : BitVec 32
  deriving DecidableEq, Repr, Inhabited

/-- The ways the machine stops. -/
inductive Fault where
  /-- Raised by a ROM read whose index falls outside the table (60_exceptions.md R405, 20_memory.md R82). Safe: the spec has the
  model stop here. -/
  | romIndexFault
  /-- Raised by the 5300 harmonic enhancement when its lag is below 1 (60_exceptions.md R406). Safe: the spec has the model stop
  here. -/
  | indexFault
  /-- Raised where a value of the state or of a parameter would index a scratch buffer outside every range the rules name
  (00_scope.md R13, R15: an error of the spec, never a value). Safe: no state reached from reset raises it. DESIGN CHOICE: log
  entry 11. -/
  | scratchIndexFault
  /-- Raised by a host access with a byte at an offset from 0x300 on, outside the core (20_memory.md R71). Safe: the spec gives
  such an access no effect. DESIGN CHOICE: log entry 10. -/
  | outsideWindow
  deriving DecidableEq, Repr

/-- The ways an instruction has no meaning. -/
inductive Refusal where
  /-- An instruction whose arm of `exec` gives it no meaning yet. Safe: the machine stops. No arm does so. -/
  | notModelled (mnemonic : String)
  deriving DecidableEq, Repr

/-- Every field of a subframe record at its reset value (R39). -/
def Subframe.reset : Subframe where
  adCbLag := 0
  adCbGain := 0
  ampIndex := 0
  diracTrain := 0
  gridIndex := 0
  pulseSign := 0
  pulsePos := 0

/-- `S` at its reset values (R31–R46, 70_reset_and_hazards.md R431), given the ROM's `dc_lsp` and the value of `postfilter`. -/
def Persistent.reset (dcLsp : Vector I16 10) (postfilter : Bool) : Persistent where
  prevLsp := dcLsp
  sidLsp := dcLsp
  curFrameType := .sid
  pastFrameType := .sid
  curRate := .r6300
  prevExcitation := Vector.replicate 146 0
  synthMem := Vector.replicate 10 0
  firMem := Vector.replicate 10 0
  iirMem := Vector.replicate 10 0
  pitchLag := Vector.replicate 2 0
  subframe := Vector.replicate 4 Subframe.reset
  lspIndex := Vector.replicate 3 0
  erasedFrames := 0
  interpGain := 0
  interpIndex := 0
  sidGain := 0
  curGain := 0
  reflectionCoef := 0
  pfGain := 4096
  randomSeed := 0
  cngRandomSeed := 12345
  postfilter := postfilter

/-- The host registers at their reset values (R48). -/
def HostRegs.reset : HostRegs where
  inLen := 0
  inBytes := Vector.replicate 24 0
  err := .ok
  bad := false
  consumed := 0
  samples := 0
  out := Vector.replicate 240 0

/-- The machine after power-on with given parameters (70_reset_and_hazards.md R430, R435): `CONFIG` is 0x01. -/
def State.powerOn (p : Params) : State where
  core := Persistent.reset p.rom.dcLsp true
  regs := HostRegs.reset
  params := p
  pending := []
  readData := 0

/-- The machine right after reset, with the ROM and parameters of `Config.resetParams`. -/
def State.reset : State := State.powerOn Config.resetParams

end Sys2Proof.Machine
end

