-- ==== Sys2Proof/Machine/Primitives.lean ====
section
/-! DEFINITION. Exact integer arithmetic, clips, wraps and the fixed-point primitives (00_scope.md R8–R12, 40_primitives.md
R140–R152), and the loops and array accesses every rule is written with (R13). -/

namespace Sys2Proof.Machine

/-! ### Loops and arrays (R13) -/

/-- `for i in [0, n)`: the body runs for `i = 0, 1, …, n − 1` and later iterations see earlier writes (R13). -/
def loop {α : Type} : Nat → α → (α → Nat → α) → α
  | 0, a, _ => a
  | n + 1, a, f => f (loop n a f) n

/-- Element `i` of an array; 0 past its end, which no rule reads (R13, R15; log entry 17). -/
def cell {w n : Nat} (v : Vector (BitVec w) n) (i : Nat) : BitVec w := if h : i < n then v[i] else 0

/-- Element `i` of an array of signed values (R8). -/
def rd {w n : Nat} (v : Vector (BitVec w) n) (i : Nat) : Int := (cell v i).toInt

/-- As `rd`, at an index computed in the integers. -/
def rdAt {w n : Nat} (v : Vector (BitVec w) n) (i : Int) : Int := if i < 0 then 0 else rd v i.toNat

/-- Store a value into element `i`: the store is `wrap_N` to the element's width (R8, R151). -/
def wr {w n : Nat} (v : Vector (BitVec w) n) (i : Nat) (x : Int) : Vector (BitVec w) n :=
  v.setIfInBounds i (BitVec.ofInt w x)

/-- An array whose element `i` is stored from `f i`. -/
def build {w n : Nat} (f : Nat → Int) : Vector (BitVec w) n := Vector.ofFn fun i => BitVec.ofInt w (f i.val)

/-- `v[off .. off + n)`. -/
def slice {w m : Nat} (v : Vector (BitVec w) m) (off n : Nat) : Vector (BitVec w) n :=
  Vector.ofFn fun i => cell v (off + i.val)

/-- The exact sum of `f i` for `i ∈ [0, n)`. -/
def sum (n : Nat) (f : Nat → Int) : Int := loop n 0 fun acc i => acc + f i

/-! ### Shifts, bits and division (R9–R11) -/

/-- `v << n` (R9). -/
def shl (v : Int) (n : Nat) : Int := v * ((2 ^ n : Nat) : Int)

/-- `v >> n`: rounds toward minus infinity (R9). -/
def asr (v : Int) (n : Nat) : Int := v / ((2 ^ n : Nat) : Int)

/-- The low `n` bits of the two's-complement representation, `v & (2^n − 1)` (R11). -/
def lowBits (v : Int) (n : Nat) : Int := v % ((2 ^ n : Nat) : Int)

/-- `v & ~3` (R11): the two low bits cleared. -/
def clearLow2 (v : Int) : Int := v - lowBits v 2

/-- `a / b`: truncation toward zero (R10). -/
def quot (a b : Int) : Int := a.tdiv b

/-! ### Clips and wraps (R140, R141, R151) -/

/-- R140. -/
def clip (x lo hi : Int) : Int := if x < lo then lo else if hi < x then hi else x

/-- R141. -/
def clip16 (x : Int) : Int := clip x (-32768) 32767

/-- R141. -/
def clip32 (x : Int) : Int := clip x (-2147483648) 2147483647

/-- `wrap_16` (R151). -/
def wrap16 (v : Int) : Int := (v + 32768) % 65536 - 32768

/-- `wrap_32` (R151). -/
def wrap32 (v : Int) : Int := (v + 2147483648) % 4294967296 - 2147483648

/-- R142. -/
def satAdd32 (a b : Int) : Int := clip32 (a + b)

/-- R143. -/
def satDadd32 (a b : Int) : Int := satAdd32 a (satAdd32 b b)

/-! ### Logarithm, normalization, square root, products (R144–R150) -/

/-- R144; 0 for an argument of 0. -/
def log2Floor (u : Int) : Int := (Nat.log2 u.toNat : Int)

/-- R145. -/
def normalizeBits (n width : Int) : Int := width - log2Floor n - 1

/-- One iteration of `square_root` (R146) on the pair (`res`, `e`). -/
def squareRootStep (val : Int) (p : Int × Int) : Int × Int :=
  let c := p.1 + p.2
  (if val ≥ 2 * c * c then c else p.1, asr p.2 1)

/-- R146. -/
def squareRoot (val : Int) : Int := (loop 14 (0, 0x4000) fun p _ => squareRootStep val p).1

/-- R147, with the `wrap_32` of its store (93_implementation_defined.md W6). -/
def mull2 (a b : Int) : Int := wrap32 (shl (asr a 16 * b) 1 + asr (lowBits a 16 * b) 15)

/-- The largest `|src[i]|` (R148). -/
def maxAbs {n : Nat} (src : Vector I16 n) : Int := loop n 0 fun m i => max m |rd src i|

/-- The shift `bits` of `scale_vector` (R148). -/
def scaleBits {n : Nat} (src : Vector I16 n) : Int := max 0 (normalizeBits (maxAbs src) 15)

/-- The destination of `scale_vector` (R148). -/
def scaleVector {n : Nat} (src : Vector I16 n) : Vector I16 n :=
  build fun i => asr (shl (rd src i) (scaleBits src).toNat) 3

/-- The result of `scale_vector` (R148). -/
def scaleShift {n : Nat} (src : Vector I16 n) : Int := scaleBits src - 3

/-- `DOT` of `n` elements given by index (R149). -/
def dot (n : Nat) (a b : Nat → Int) : Int := loop n 0 fun acc i => satDadd32 acc (a i * b i)

/-- One element of `WSUM` (R150). -/
def wsum (a b wa wb rnd : Int) (sh : Nat) : Int := clip16 (asr (a * wa + b * wb + rnd) sh)

end Sys2Proof.Machine
end

