-- ==== Sys2Proof/Syntax.lean ====
section
/-! DEFINITION. The instructions of the core (00_scope.md R2): three host commands and four frame types, with every coded field
of a frame as an operand of exactly its coded width (30_encoding.md R103–R107). -/

namespace Sys2Proof

/-- The fields that F63 and F53 share, stream bits 2–95 (30_encoding.md R104, R105). -/
structure ActiveHeader where
  lspIndex2 : BitVec 8
  lspIndex1 : BitVec 8
  lspIndex0 : BitVec 8
  pitchCode0 : BitVec 7
  adCbLag1 : BitVec 2
  pitchCode1 : BitVec 7
  adCbLag3 : BitVec 2
  gainWord0 : BitVec 12
  gainWord1 : BitVec 12
  gainWord2 : BitVec 12
  gainWord3 : BitVec 12
  grid0 : BitVec 1
  grid1 : BitVec 1
  grid2 : BitVec 1
  grid3 : BitVec 1
  deriving DecidableEq, Repr, Inhabited

/-- The operands of `FRAME63` (30_encoding.md R106). `reserved` is the skipped stream bit 96. -/
structure Frame63 where
  header : ActiveHeader
  reserved : BitVec 1
  posWord : BitVec 13
  posTail0 : BitVec 16
  posTail1 : BitVec 14
  posTail2 : BitVec 16
  posTail3 : BitVec 14
  sign0 : BitVec 6
  sign1 : BitVec 5
  sign2 : BitVec 6
  sign3 : BitVec 5
  deriving DecidableEq, Repr, Inhabited

/-- The operands of `FRAME53` (30_encoding.md R107). -/
structure Frame53 where
  header : ActiveHeader
  pos0 : BitVec 12
  pos1 : BitVec 12
  pos2 : BitVec 12
  pos3 : BitVec 12
  sign0 : BitVec 4
  sign1 : BitVec 4
  sign2 : BitVec 4
  sign3 : BitVec 4
  deriving DecidableEq, Repr, Inhabited

/-- The operands of `SID` (30_encoding.md R104). -/
structure SidFrame where
  lspIndex2 : BitVec 8
  lspIndex1 : BitVec 8
  lspIndex0 : BitVec 8
  ampIndex : BitVec 6
  deriving DecidableEq, Repr, Inhabited

/-- The instructions, one constructor for each row of spec/opcode_table.json. -/
inductive Instr where
  /-- `NOP`, command byte 0x00 (R385). -/
  | nop
  /-- `RESET`, command byte 0x01 (R384). -/
  | reset
  /-- `DECODE`, command byte 0x02 (R370); its operands stand in the register window. -/
  | decode
  /-- `FRAME63`: DECODE of an ACTIVE frame at 6300 bit/s (R386). -/
  | frame63 (f : Frame63)
  /-- `FRAME53`: DECODE of an ACTIVE frame at 5300 bit/s (R387). -/
  | frame53 (f : Frame53)
  /-- `SID`: DECODE of a SID frame (R388). -/
  | sid (f : SidFrame)
  /-- `UNTX`: DECODE of an UNTRANSMITTED frame (R389); `ignored` is bits 2–7 of its byte (R103). -/
  | untx (ignored : BitVec 6)
  deriving DecidableEq, Repr, Inhabited

/-- Where an instruction's bytes stand: the `CMD` byte (30_encoding.md R120) or `IN_BYTES` (R101). -/
inductive Source where
  | command
  | frame
  deriving DecidableEq, Repr, Inhabited

/-- The encoding space of an instruction. -/
def Instr.source : Instr → Source
  | .nop => .command
  | .reset => .command
  | .decode => .command
  | .frame63 _ => .frame
  | .frame53 _ => .frame
  | .sid _ => .frame
  | .untx _ => .frame

/-- How many bytes an instruction occupies: 1 for a command byte, `frame_size` for a frame (30_encoding.md R101). -/
def Instr.size : Instr → Nat
  | .nop => 1
  | .reset => 1
  | .decode => 1
  | .frame63 _ => 24
  | .frame53 _ => 20
  | .sid _ => 4
  | .untx _ => 1

end Sys2Proof
end

