-- ==== Sys2Proof/Machine/Operands.lean ====
section
/-! DEFINITION. Operand assembly: how coded fields become decoder parameters (30_encoding.md R108–R110, 41_unpack.md R175–R182),
and the fixed tables that subframes index (10_state.md R51). -/

namespace Sys2Proof.Machine

/-- `pulses[s] = {6, 5, 6, 5}` (R51). -/
def pulses (s : Nat) : Nat := if s % 2 = 0 then 6 else 5

/-- `max_pos[s] = C(30, pulses[s])` (R51). -/
def maxPos (s : Nat) : Nat := Nat.choose 30 (pulses s)

/-- `combinatorial_table[j][i] = C(29 − i, 5 − j)` for `j ∈ [0, 6)`, `i ∈ [0, 30)` (R51). -/
def combinatorialTable (j i : Nat) : Nat := Nat.choose (29 - i) (5 - j)

/-- The lag of a legal pitch code (R175). -/
def pitchLagOf (c : BitVec 7) : BitVec 8 := BitVec.ofNat 8 (c.toNat + pitchMin)

/-- R175: code values above 123 are forbidden. -/
def pitchForbidden (c : BitVec 7) : Bool := decide (123 < c.toNat)

/-- What a gain word decodes to (R108, R178). -/
structure GainOperand where
  diracTrain : BitVec 1
  /-- the gain index before its check against the table length -/
  gain : Nat
  amp : Nat
  tableLen : Nat
  deriving DecidableEq, Repr

/-- The gain word `t` of a subframe whose pair has lag `lag`, at rate `rate` (R108, R178): at 6300 with a lag below 58 the top bit
is `dirac_train` and the table has 85 rows; otherwise all 12 bits are the gain and the table has 170 rows. -/
def gainOperand (rate : Rate) (lag : Nat) (t : BitVec 12) : GainOperand :=
  if rate = .r6300 ∧ lag < subframeLen - 2 then
    { diracTrain := BitVec.ofNat 1 (t.toNat / 2048), gain := t.toNat % 2048 / gainLevels,
      amp := t.toNat % 2048 % gainLevels, tableLen := 85 }
  else
    { diracTrain := 0, gain := t.toNat / gainLevels, amp := t.toNat % gainLevels, tableLen := 170 }

/-- The high digits `(d0, d1, d2, d3)` of `pos_word` (R109, R180). -/
def posDigits (w : BitVec 13) : Nat × Nat × Nat × Nat :=
  let t := w.toNat
  (t / 810, t % 810 / 90, t % 810 % 90 / 9, t % 810 % 90 % 9)

/-- A 6300 pulse position: the digit shifted above its tail (R109, R180). -/
def pulsePos63 (digit shift tail : Nat) : BitVec 32 := BitVec.ofNat 32 (digit * 2 ^ shift + tail)

/-- Replace the record of subframe `i`. -/
def setSubframe (c : Persistent) (i : Nat) (f : Subframe → Subframe) : Persistent :=
  if h : i < 4 then { c with subframe := c.subframe.set i (f c.subframe[i]) } else c

/-- The record of subframe `i` (`sf` of 43_excitation.md). -/
def subframeAt (c : Persistent) (i : Nat) : Subframe := if h : i < 4 then c.subframe[i] else Subframe.reset

/-- The lag of subframe `s`, `L = S.pitch_lag[s div 2]` (43_excitation.md, 92_eei_decisions.md D44). -/
def lagOf (c : Persistent) (s : Nat) : Nat := (cell c.pitchLag (s / 2)).toNat

end Sys2Proof.Machine
end

