-- ==== Sys2Proof/Decode.lean ====
section
/-! DEFINITION. The decoder and the encoder of both encoding spaces: the command byte (30_encoding.md R120) and the frame bit
stream (R100–R107). The decoder is total on any bytes and rejects by name. -/

namespace Sys2Proof

/-- Why bytes are no instruction. -/
inductive Reject where
  /-- A command byte in 0x03–0xFF (60_exceptions.md R403). -/
  | badCommand
  /-- No byte at all, or fewer than the frame type's size (60_exceptions.md R401). -/
  | shortFrame
  /-- More than the one byte of a command. -/
  | notOneByte
  deriving DecidableEq, Repr

/-! ### Bit streams -/

/-- Bytes as one number, the first byte least significant. -/
def bytesToNat : List Byte → Nat
  | [] => 0
  | b :: bs => b.toNat + 256 * bytesToNat bs

/-- The first `n` bytes of a number, least significant first. -/
def natToBytes : Nat → Nat → List Byte
  | 0, _ => []
  | n + 1, w => BitVec.ofNat 8 w :: natToBytes n (w / 256)

/-- The frame bit stream (20_memory.md R73): bit `p` is bit `p mod 8` of byte `p div 8`; bits past the bytes given are 0. No
frame is longer than 24 bytes (R101). -/
def streamOf (bytes : List Byte) : BitVec 192 := BitVec.ofNat 192 (bytesToNat bytes)

/-- `Field(p, w)` (R100): `w` bits from stream bit `p` on, the first read least significant. -/
def field (stream : BitVec 192) (p w : Nat) : BitVec w := stream.extractLsb' p w

/-- `info_bits` (R101, R102). -/
def infoBits (stream : BitVec 192) : BitVec 2 := field stream 0 2

/-- `frame_size` (R101, 10_state.md R51). -/
def frameSize (info : BitVec 2) : Nat :=
  if info = 0 then 24 else if info = 1 then 20 else if info = 2 then 4 else 1

/-! ### Decoding -/

/-- Stream bits 2–95 of F63 and F53 (R104, R105). -/
def ActiveHeader.ofStream (w : BitVec 192) : ActiveHeader where
  lspIndex2 := field w 2 8
  lspIndex1 := field w 10 8
  lspIndex0 := field w 18 8
  pitchCode0 := field w 26 7
  adCbLag1 := field w 33 2
  pitchCode1 := field w 35 7
  adCbLag3 := field w 42 2
  gainWord0 := field w 44 12
  gainWord1 := field w 56 12
  gainWord2 := field w 68 12
  gainWord3 := field w 80 12
  grid0 := field w 92 1
  grid1 := field w 93 1
  grid2 := field w 94 1
  grid3 := field w 95 1

/-- Format F63 (R106). -/
def Frame63.ofStream (w : BitVec 192) : Frame63 where
  header := ActiveHeader.ofStream w
  reserved := field w 96 1
  posWord := field w 97 13
  posTail0 := field w 110 16
  posTail1 := field w 126 14
  posTail2 := field w 140 16
  posTail3 := field w 156 14
  sign0 := field w 170 6
  sign1 := field w 176 5
  sign2 := field w 181 6
  sign3 := field w 187 5

/-- Format F53 (R107). -/
def Frame53.ofStream (w : BitVec 192) : Frame53 where
  header := ActiveHeader.ofStream w
  pos0 := field w 96 12
  pos1 := field w 108 12
  pos2 := field w 120 12
  pos3 := field w 132 12
  sign0 := field w 144 4
  sign1 := field w 148 4
  sign2 := field w 152 4
  sign3 := field w 156 4

/-- Format FSID (R104). -/
def SidFrame.ofStream (w : BitVec 192) : SidFrame where
  lspIndex2 := field w 2 8
  lspIndex1 := field w 10 8
  lspIndex0 := field w 18 8
  ampIndex := field w 26 6

/-- The frame instruction a bit stream begins with (R102): all four values of `info_bits` are defined. -/
def frameOfStream (w : BitVec 192) : Instr :=
  if infoBits w = 0 then .frame63 (Frame63.ofStream w)
  else if infoBits w = 1 then .frame53 (Frame53.ofStream w)
  else if infoBits w = 2 then .sid (SidFrame.ofStream w)
  else .untx (field w 2 6)

/-- The command a byte written to `CMD` selects (R120); 0x03–0xFF are reserved. -/
def decodeCommand (v : Byte) : Except Reject Instr :=
  if v = 0 then .ok .nop
  else if v = 1 then .ok .reset
  else if v = 2 then .ok .decode
  else .error .badCommand

/-- The frame a byte list begins with (R101, R102): its first two bits give its length, and bytes beyond that are not read. -/
def decodeFrame (bytes : List Byte) : Except Reject Instr :=
  match bytes with
  | [] => .error .shortFrame
  | b :: bs =>
    if (b :: bs).length < frameSize (infoBits (streamOf [b])) then .error .shortFrame
    else .ok (frameOfStream (streamOf ((b :: bs).take (frameSize (infoBits (streamOf [b]))))))

/-- The decoder of both spaces. -/
def decode (src : Source) (bytes : List Byte) : Except Reject Instr :=
  match src with
  | .frame => decodeFrame bytes
  | .command =>
    match bytes with
    | [v] => decodeCommand v
    | _ => .error .notOneByte

/-! ### Encoding -/

/-- Stream bits 2–95 (R104, R105), the first field least significant. -/
def ActiveHeader.bits (h : ActiveHeader) : BitVec 94 :=
  h.grid3 ++ h.grid2 ++ h.grid1 ++ h.grid0 ++ h.gainWord3 ++ h.gainWord2 ++ h.gainWord1 ++ h.gainWord0
    ++ h.adCbLag3 ++ h.pitchCode1 ++ h.adCbLag1 ++ h.pitchCode0 ++ h.lspIndex0 ++ h.lspIndex1 ++ h.lspIndex2

/-- The 192 bits of F63 (R106). -/
def Frame63.bits (f : Frame63) : BitVec 192 :=
  f.sign3 ++ f.sign2 ++ f.sign1 ++ f.sign0 ++ f.posTail3 ++ f.posTail2 ++ f.posTail1 ++ f.posTail0
    ++ f.posWord ++ f.reserved ++ f.header.bits ++ 0#2

/-- The 160 bits of F53 (R107). -/
def Frame53.bits (f : Frame53) : BitVec 160 :=
  f.sign3 ++ f.sign2 ++ f.sign1 ++ f.sign0 ++ f.pos3 ++ f.pos2 ++ f.pos1 ++ f.pos0 ++ f.header.bits ++ 1#2

/-- The 32 bits of FSID (R104). -/
def SidFrame.bits (f : SidFrame) : BitVec 32 :=
  f.ampIndex ++ f.lspIndex0 ++ f.lspIndex1 ++ f.lspIndex2 ++ 2#2

/-- The bytes of an instruction in its own space (R100–R107, R120). -/
def encode : Instr → List Byte
  | .nop => [0x00]
  | .reset => [0x01]
  | .decode => [0x02]
  | .frame63 f => natToBytes 24 f.bits.toNat
  | .frame53 f => natToBytes 20 f.bits.toNat
  | .sid f => natToBytes 4 f.bits.toNat
  | .untx b => natToBytes 1 (b ++ 3#2 : BitVec 8).toNat

/-! ### The opcode table's numbering -/

/-- The low `nbits` bits of a table word, as the 24 bytes of the longest instruction. -/
def tableBytes (nbits w : Nat) : List Byte := natToBytes 24 (w % 2 ^ nbits)

/-- The instruction the decoder reads from a word of spec/opcode_table.json. The table lists both encoding spaces without
saying which a word belongs to: a word of at most 8 bits that is a command byte (R120) is read as one, and any other word as a
frame whose remaining bytes are 0. DESIGN CHOICE: log entry 7. -/
def decodeTableWord (nbits w : Nat) : Option Instr :=
  match (if nbits ≤ 8 then decode .command ((tableBytes nbits w).take 1) else .error .badCommand) with
  | .ok i => some i
  | .error _ => (decode .frame (tableBytes nbits w)).toOption

end Sys2Proof
end

