-- ==== Sys2Proof/Machine/Flags.lean ====
section
/-! DEFINITION. The status fields of the core: the `STATUS` byte (10_state.md R48) and the bad-frame remap (41_unpack.md R186).
There are no other flags or condition codes (R47). -/

namespace Sys2Proof.Machine

/-- `STATUS.ERR` (R48, 60_exceptions.md R400). -/
def errCode : StatusErr → BitVec 2
  | .ok => 0
  | .shortFrame => 1
  | .badCommand => 2

/-- `STATUS.PAST` (R48). -/
def pastCode : FrameType → BitVec 2
  | .active => 0
  | .sid => 1
  | .untransmitted => 2

/-- The `STATUS` byte (R48): bits 1:0 `ERR`, bit 2 `BAD`, bit 3 `BUSY` (always 0, 70_reset_and_hazards.md R441), bits 5:4
`PAST`, bits 7:6 zero. -/
def statusByte (err : StatusErr) (bad : Bool) (past : FrameType) : Byte :=
  0#2 ++ pastCode past ++ 0#1 ++ BitVec.ofBool bad ++ errCode err

/-- `remap(parsed, ok, past)` (R186). -/
def remap (parsed : FrameType) (ok : Bool) (past : FrameType) : FrameType :=
  if ok then parsed else if past = .active then .active else .untransmitted

end Sys2Proof.Machine
end

