-- ==== Sys2Proof/Machine/Ops.lean ====
section
/-! DEFINITION. The named operations over the register window and the status: reading and writing one byte of the window
(20_memory.md R71, R75), the two status errors (60_exceptions.md R401, R403), and how a computation that can meet a model fault
ends a step. The core takes no trap (R410): a status error is its only form of exception. -/

namespace Sys2Proof.Machine

/-! ### The register window -/

/-- Offsets below 0x300 are the core's (R71). -/
def inWindow (a : Nat) : Bool := decide (a < 0x300)

/-- Byte `k` of a 16-bit register, little-endian (R72). -/
def byteOf16 (v : BitVec 16) (k : Nat) : Byte := v.extractLsb' (8 * k) 8

/-- `byte(a)` (R75): the register byte at an offset of the window. Reserved offsets and `CMD` read 0 (R71, R48). -/
def byteAt (s : State) (a : Nat) : Byte :=
  if a = 0x001 then (if s.core.postfilter then 1 else 0)
  else if a = 0x002 then s.regs.inLen
  else if a = 0x003 then statusByte s.regs.err s.regs.bad s.core.pastFrameType
  else if a = 0x004 then s.regs.consumed
  else if a = 0x006 ∨ a = 0x007 then byteOf16 s.regs.samples (a - 0x006)
  else if 0x020 ≤ a ∧ a < 0x038 then cell s.regs.inBytes (a - 0x020)
  else if 0x100 ≤ a ∧ a < 0x2E0 then byteOf16 (cell s.regs.out ((a - 0x100) / 2)) ((a - 0x100) % 2)
  else 0

/-- A single-byte write to any byte but `CMD` (R75): `CONFIG` takes bit 0, `IN_LEN` and `IN_BYTES` store the byte, and read-only
and reserved bytes ignore the write. -/
def storeByte (s : State) (a : Nat) (v : Byte) : State :=
  if a = 0x001 then { s with core := { s.core with postfilter := v.getLsbD 0 } }
  else if a = 0x002 then { s with regs := { s.regs with inLen := v } }
  else if 0x020 ≤ a ∧ a < 0x038 then
    { s with regs := { s.regs with inBytes := s.regs.inBytes.setIfInBounds (a - 0x020) v } }
  else s

/-- The number of bytes of an access (R74). -/
def widthBytes : AccessWidth → Nat
  | .one => 1
  | .two => 2
  | .four => 4

/-- `MemRead(a, n)` (R75). -/
def memRead (s : State) (a n : Nat) : Nat := bytesToNat ((List.range n).map fun k => byteAt s (a + k))

/-- `bits[8k+7:8k]` of the value of a write (R75). -/
def writeByteOf (v : BitVec 32) (k : Nat) : Byte := v.extractLsb' (8 * k) 8

/-! ### Status errors -/

/-- ShortFrame (R401): the registers that report it change; `S` and `OUT` do not. -/
def raiseShortFrame (s : State) : State :=
  { s with regs := { s.regs with err := .shortFrame, bad := false, consumed := s.regs.inLen, samples := 0 } }

/-- BadCommand (R403): only `STATUS.ERR` changes. -/
def raiseBadCommand (s : State) : State := { s with regs := { s.regs with err := .badCommand } }

/-! ### Ends of a step -/

/-- A computation that met a model fault stops the machine (R405, R406); one that did not gives the next state. -/
def toOutcome : Except Fault State → Host.Outcome State Fault Refusal
  | .ok s => .next s
  | .error e => .fault e

/-- A ROM read (R82): the model faults when the index falls outside the table. -/
def romRead {w n : Nat} (table : Vector (BitVec w) n) (i : Nat) : Except Fault Int :=
  if h : i < n then .ok (table[i].toInt) else .error .romIndexFault

end Sys2Proof.Machine
end

