-- ==== Sys2Proof/Machine/Excitation.lean ====
section
/-! DEFINITION. The fixed codebooks of both rates and the adaptive codebook (43_excitation.md R230–R241). -/

namespace Sys2Proof.Machine

/-- A subframe's vector of 60 samples. -/
abbrev SubframeVec := Vector I16 60

/-- The excitation buffer `E` (10_state.md R49). -/
abbrev ExcBuf := Vector I16 386

/-! ### Fixed codebook at 6300 bit/s -/

/-- The slots the combinatorial decode chooses (R231) among the last `m` of the 30, so that the slot looked at next is `30 − m`;
`j` is the row, and the decode stops at `PULSE_MAX`. -/
def selectSlots : Nat → Nat → Nat → List Nat
  | 0, _, _ => []
  | m + 1, j, t =>
    if j = pulseMax then []
    else if t < combinatorialTable j (29 - m) then (29 - m) :: selectSlots m (j + 1) t
    else selectSlots m j (t - combinatorialTable j (29 - m))

/-- The slots of subframe `s` for the index `t` (R231): `j` starts at `PULSE_MAX − pulses[s]`. -/
def slots63 (s t : Nat) : List Nat := selectSlots 30 (pulseMax - pulses s) t

/-- `SIGN63` (R233). -/
def sign63 (b : Bool) (g : Int) : Int := if b then -g else g

/-- The pulses of the chosen slots (R231): the slot chosen as number `p`, from 0, takes sign bit `pulses[s] − 1 − p`. -/
def placePulses (fcb : SubframeVec) (grid : Nat) (sign : BitVec 8) (g : Int) : Nat → List Nat → SubframeVec
  | _, [] => fcb
  | bits, slot :: rest =>
    placePulses (wr fcb (grid + 2 * slot) (sign63 (sign.getLsbD (bits - 1)) g)) grid sign g (bits - 1) rest

/-- One shifted copy of the vector before any overlay (R234), stored by `wrap_16` (W7). -/
def overlay (orig fcb : SubframeVec) (i : Nat) : SubframeVec :=
  build fun p => if i ≤ p then rd fcb p + rd orig (p - i) else rd fcb p

/-- `DIRAC` (R234): the shifts are the multiples of the lag below 60. -/
def dirac (fcb : SubframeVec) (lag : Nat) : SubframeVec :=
  loop 59 fcb fun f m => if (m + 1) * lag < subframeLen then overlay fcb f ((m + 1) * lag) else f

/-- `FCB` at 6300 bit/s (R231–R234): an index at or above `max_pos` gives the zero vector. -/
def fcb63 (rom : Rom) (s : Nat) (sf : Subframe) (lag : Nat) : Except Fault SubframeVec :=
  if maxPos s ≤ sf.pulsePos.toNat then .ok (Vector.replicate 60 0)
  else do
    let g ← romRead rom.fixedCbGain sf.ampIndex.toNat
    let fcb := placePulses (Vector.replicate 60 0) sf.gridIndex.toNat sf.pulseSign g (pulses s)
      (slots63 s sf.pulsePos.toNat)
    .ok (if sf.diracTrain = 1 then dirac fcb lag else fcb)

/-! ### Fixed codebook at 5300 bit/s -/

/-- `SIGN53` (R236). -/
def sign53 (b : Bool) (g : Int) : Int := if b then g else -g

/-- The offset of pulse `k` (R235). -/
def pulseOff53 (sf : Subframe) (k : Nat) : Nat :=
  sf.pulsePos.toNat / 2 ^ (3 * k) % 8 * 8 + sf.gridIndex.toNat + 2 * k

/-- The four regular pulses (R235): a pulse at an offset of 60 or more is discarded. -/
def regularPulses (sf : Subframe) (g : Int) : SubframeVec :=
  loop 4 (Vector.replicate 60 0) fun fcb k =>
    if pulseOff53 sf k < subframeLen then wr fcb (pulseOff53 sf k) (sign53 (sf.pulseSign.getLsbD k) g) else fcb

/-- The harmonic enhancement for a lag of at least 1 (R237): in place, in increasing order, stored by `wrap_16` (W8). -/
def enhance (fcb : SubframeVec) (lag : Nat) (beta : Int) : SubframeVec :=
  loop (subframeLen - lag) fcb fun f k => wr f (lag + k) (rd f (lag + k) + asr (beta * rd f k) 15)

/-- The lag of the harmonic enhancement (R237), given `pitch_contrib[2·ad_cb_gain]`. -/
def harmonicLag (contrib : Int) (lag : Nat) (sf : Subframe) : Int := contrib + lag + sf.adCbLag.toNat - 1

/-- `FCB` at 5300 bit/s (R235–R237). -/
def fcb53 (rom : Rom) (sf : Subframe) (lag : Nat) : Except Fault SubframeVec := do
  let g ← romRead rom.fixedCbGain sf.ampIndex.toNat
  let contrib ← romRead rom.pitchContrib (2 * sf.adCbGain.toNat)
  let beta ← romRead rom.pitchContrib (2 * sf.adCbGain.toNat + 1)
  let fcb := regularPulses sf g
  if harmonicLag contrib lag sf < (subframeLen : Int) - 2 then
    if harmonicLag contrib lag sf < 1 then .error .indexFault
    else .ok (enhance fcb (harmonicLag contrib lag sf).toNat beta)
  else .ok fcb

/-- `FCB` (R230). -/
def fixedCodebook (rom : Rom) (rate : Rate) (s : Nat) (sf : Subframe) (lag : Nat) : Except Fault SubframeVec :=
  match rate with
  | .r6300 => fcb63 rom s sf lag
  | .r5300 => fcb53 rom sf lag

/-! ### Adaptive codebook -/

/-- The effective lag (R238). -/
def acbLag (lag : Nat) (sf : Subframe) : Int := lag + sf.adCbLag.toNat - 1

/-- Where in the 146 samples of the history element `i` of the 64-sample residual window stands, for the effective lag (R238). -/
def residualIndex (lag i : Nat) : Nat := if i < 2 then 144 - lag + i else 144 - lag + 2 + (i - 2) % lag

/-- Element `i` of the 64-sample residual window over the history `H` at `E[base .. base + 146)` (R238). -/
def residual (e : ExcBuf) (base lag i : Nat) : Int := rd e (base + residualIndex lag i)

/-- Tap `k` of the five-tap predictor (R239). -/
def acbTap (rom : Rom) (rate : Rate) (lag : Nat) (sf : Subframe) (k : Nat) : Except Fault Int :=
  if rate = .r6300 ∧ lag < subframeLen - 2 then romRead rom.adaptiveCbGain85 (20 * sf.adCbGain.toNat + k)
  else romRead rom.adaptiveCbGain170 (20 * sf.adCbGain.toNat + k)

/-- The five taps (R239). -/
def acbTaps (rom : Rom) (rate : Rate) (lag : Nat) (sf : Subframe) : Except Fault (List Int) := do
  let c0 ← acbTap rom rate lag sf 0
  let c1 ← acbTap rom rate lag sf 1
  let c2 ← acbTap rom rate lag sf 2
  let c3 ← acbTap rom rate lag sf 3
  let c4 ← acbTap rom rate lag sf 4
  .ok [c0, c1, c2, c3, c4]

/-- The 60 output samples for given taps and effective lag (R240). -/
def acbOutput (e : ExcBuf) (base lag : Nat) (taps : List Int) : SubframeVec :=
  build fun i => asr (satAdd32 32768 (dot 5 (fun k => residual e base lag (i + k)) fun k => taps.getD k 0)) 16

/-- `ACB` (R238–R240) on the history `E[base .. base + 146)`. An effective lag outside [1, 144] would index outside the history:
no decoded frame has one (R238, R350), and the model stops there. Log entry 11. -/
def adaptiveCodebook (rom : Rom) (rate : Rate) (e : ExcBuf) (base lag : Nat) (sf : Subframe) : Except Fault SubframeVec :=
  if acbLag lag sf < 1 ∨ 144 < acbLag lag sf then .error .scratchIndexFault
  else do
    let taps ← acbTaps rom rate lag sf
    .ok (acbOutput e base (acbLag lag sf).toNat taps)

/-! ### Total excitation -/

/-- `E` with the 60 samples of subframe `s` replaced. -/
def writeSubframe (e : ExcBuf) (s : Nat) (f : Nat → Int) : ExcBuf :=
  build fun p => if 146 + 60 * s ≤ p ∧ p < 206 + 60 * s then f (p - (146 + 60 * s)) else rd e p

/-- One excitation sample of the two codebooks (R241). -/
def mixSample (fcb acb : Int) : Int := clip16 (clip16 (shl fcb 1) + acb)

/-- The excitation of subframe `s` of an ACTIVE frame that is not erased (R241). -/
def excitationSubframe (p : Params) (c : Persistent) (e : ExcBuf) (s : Nat) : Except Fault ExcBuf := do
  let fcb ← fixedCodebook p.rom c.curRate s (subframeAt c s) (lagOf c s)
  let acb ← adaptiveCodebook p.rom c.curRate e (60 * s) (lagOf c s) (subframeAt c s)
  .ok (writeSubframe e s fun j => mixSample (rd fcb j) (rd acb j))

/-- `E` at the start of a frame: the history head, and samples that every path writes before it reads them (R374, R350;
log entry 17). -/
def historyHead (prevExcitation : Vector I16 146) : ExcBuf := build fun p => if p < 146 then rd prevExcitation p else 0

/-- The four subframes in order (R241): each sees the excitation of the earlier ones. -/
def excitation (p : Params) (c : Persistent) : Except Fault ExcBuf := do
  let e ← excitationSubframe p c (historyHead c.prevExcitation) 0
  let e ← excitationSubframe p c e 1
  let e ← excitationSubframe p c e 2
  excitationSubframe p c e 3

end Sys2Proof.Machine
end

