-- ==== Sys2Proof/Machine/Concealment.lean ====
section
/-! DEFINITION. The voicing classifier and frame-erasure concealment (44_concealment.md R270–R279). -/

namespace Sys2Proof.Machine

/-- The direction of a correlation search (R270). -/
inductive SearchDir where
  | forward
  | backward
  deriving DecidableEq, Repr

/-- `dir * i` (R270). -/
def dirMul : SearchDir → Int → Int
  | .forward, i => i
  | .backward, i => -i

/-- `DOT(Y[b .. b+n), Y[b + d .. b + d + n), n)`. -/
def correlation (y : ExcBuf) (b : Nat) (d : Int) (n : Nat) : Int :=
  dot n (fun k => rd y (b + k)) fun k => rdAt y (b + d + k)

/-- `DOT(Y[b + d ..], Y[b + d ..], n)`. -/
def energyAt (y : ExcBuf) (b : Int) (n : Nat) : Int := dot n (fun k => rdAt y (b + k)) fun k => rdAt y (b + k)

/-- `P'` (R270). -/
def searchCentre (lag : Nat) : Int := min (lag : Int) 143

/-- The upper end of the search (R270). -/
def searchHi (b lag n : Nat) : SearchDir → Int
  | .forward => min ((386 : Int) - b - n) (searchCentre lag + 3)
  | .backward => searchCentre lag + 3

/-- `AUTOCORR_MAX` (R270): the pair (lag, ccr); the first maximum wins, and (0, 0) when no correlation is positive. -/
def autocorrMax (y : ExcBuf) (b lag n : Nat) (dir : SearchDir) : Int × Int :=
  let lo := searchCentre lag - 3
  loop (searchHi b lag n dir - lo + 1).toNat (0, 0) fun best k =>
    let c := correlation y b (dirMul dir (lo + k)) n
    if best.2 < c then (lo + k, c) else best

/-- The rounding of an energy to 16 bits (R272). -/
def round16 (x : Int) : Int := asr (satAdd32 x 32768) 16

/-- `exc_eng` (R272): the energy of the last two subframes. -/
def excEnergy (y : ExcBuf) : Int := round16 (energyAt y 266 120)

/-- `INTERP_INDEX` (R272). -/
def interpIndexOf (y : ExcBuf) (lag : Nat) : Int :=
  let p := autocorrMax y 266 lag 120 .backward
  let ccr := round16 p.2
  if ccr ≤ 0 then 0
  else
    let best := round16 (energyAt y (266 - p.1) 120)
    if asr (best * excEnergy y) 3 < ccr * ccr then p.1 else 0

/-- The classifier and its side outputs (R271–R273), from the normalized copy `Y` of `E` and its shift. -/
def classify (c : Persistent) (y : ExcBuf) (shift : Int) : Persistent :=
  { c with
    interpIndex := BitVec.ofInt 32 (interpIndexOf y (lagOf c 2))
    sidGain := BitVec.ofInt 32 (excEnergy y)
    curGain := BitVec.ofInt 32 shift }

/-- The concealment gain memory of a good ACTIVE frame (R274). -/
def updateInterpGain (p : Params) (c : Persistent) : Except Fault Persistent := do
  let g ← romRead p.rom.fixedCbGain (((subframeAt c 2).ampIndex.toNat + (subframeAt c 3).ampIndex.toNat) / 2)
  .ok { c with interpGain := BitVec.ofInt 32 g }

/-! ### Erased frames -/

/-- The gain decay (R275). -/
def decayGain (c : Persistent) : Persistent :=
  { c with interpGain := BitVec.ofInt 32 (asr (3 * c.interpGain.toInt + 2) 2) }

/-- The state part of the mute (R276). -/
def mute (c : Persistent) : Persistent :=
  { c with
    prevExcitation := Vector.replicate 146 0
    synthMem := Vector.replicate 10 0
    firMem := Vector.replicate 10 0
    iirMem := Vector.replicate 10 0 }

/-- Where in the 146 samples of the history sample `i` of the voiced residual comes from (R277): the last `lag` samples, tiled. -/
def voicedIndex (lag i : Nat) : Nat := 146 + i % lag - lag

/-- The voiced residual (R277): the last `lag` samples of the history scaled by 3/4, then tiled. -/
def voicedResidual (hist : Vector I16 146) (lag : Nat) : Vector I16 240 :=
  build fun i => asr (rd hist (voicedIndex lag i) * 3) 2

/-- One draw of the concealment noise seed (R278). -/
def noiseSeed (seed : I16) : I16 := BitVec.ofInt 16 (seed.toInt * 521 + 259)

/-- The unvoiced residual with the seed it leaves (R278). -/
def unvoicedResidual (gain : Int) (seed : I16) : I16 × Vector I16 240 :=
  loop 240 (seed, Vector.replicate 240 0) fun p i =>
    (noiseSeed p.1, wr p.2 i (asr (gain * (noiseSeed p.1).toInt) 15))

/-- The hand-off of a concealed frame (R279). -/
def handOff (c : Persistent) (out : Vector I16 240) : Persistent := { c with prevExcitation := slice out 94 146 }

/-- The residual of an erased frame that is not muted, and the state it leaves (R277–R279). A value of `interp_index` outside
[0, 146] would index outside the history: no state reached from reset has one, and the model stops there. Log entry 11. -/
def concealResidual (c : Persistent) : Except Fault (Persistent × Vector I16 240) :=
  let lag := c.interpIndex.toInt
  if lag = 0 then
    let p := unvoicedResidual c.interpGain.toInt c.randomSeed
    .ok (handOff { c with randomSeed := p.1 } p.2, p.2)
  else if lag < 0 ∨ 146 < lag then .error .scratchIndexFault
  else
    let out := voicedResidual c.prevExcitation lag.toNat
    .ok (handOff c out, out)

end Sys2Proof.Machine
end

