-- ==== Sys2Proof/Machine/ComfortNoise.lean ====
section
/-! DEFINITION. The comfort-noise generator and the SID gain (46_synthesis_cng.md R340–R362). -/

namespace Sys2Proof.Machine

/-! ### Random draws -/

/-- The seed after one draw (R340). -/
def cngSeed (seed : BitVec 16) : BitVec 16 := BitVec.ofNat 16 (seed.toNat * 521 + 259)

/-- `CNG_RAND(base)` for the seed after its draw (R340). -/
def cngValue (seed : BitVec 16) (base : Nat) : Nat := seed.toNat % 32768 * base / 32768

/-- The draws of a list of bases, in order (R340): the seed they leave and their values. -/
def cngRands : BitVec 16 → List Nat → BitVec 16 × List Nat
  | seed, [] => (seed, [])
  | seed, b :: bs =>
    let r := cngRands (cngSeed seed) bs
    (r.1, cngValue (cngSeed seed) b :: r.2)

/-- What one pulse word gives (R348): the offsets of the pair's two subframes and its 11 signs scaled by 2^14. -/
structure PulseWord where
  off0 : Nat
  off1 : Nat
  signs : List Int
  deriving DecidableEq, Repr

/-- R348. -/
def pulseWord (t : Nat) : PulseWord where
  off0 := t % 2
  off1 := t / 2 % 2 + 60
  signs := (List.range 11).map fun k => (2 * ((t / 2 ^ (2 + k) % 2 : Nat) : Int) - 1) * 16384

/-- The draws of one subframe's positions from the shrinking pool (R349): `left` draws from the first `n` entries; the drawn
entry is replaced by the last. -/
def drawPositions : Nat → BitVec 16 → List Nat → Nat → Nat → BitVec 16 × List Nat
  | 0, seed, _, _, _ => (seed, [])
  | left + 1, seed, pool, n, off =>
    let s := cngSeed seed
    let r := cngValue s n
    let rest := drawPositions left s (pool.set r (pool.getD (n - 1) 0)) (n - 1) off
    (rest.1, (2 * pool.getD r 0 + off) :: rest.2)

/-- The draws of subframe `i` with offset `off` (R349). -/
def subframePositions (seed : BitVec 16) (i off : Nat) : BitVec 16 × List Nat :=
  drawPositions (pulses i) seed (List.range 30) 30 off

/-- The 30 draws of a comfort-noise frame (R341). -/
structure NoiseDraws where
  lag0 : Nat
  lag1 : Nat
  gains : List Nat
  pos0 : List Nat
  pos1 : List Nat
  sign0 : List Int
  sign1 : List Int
  seed : BitVec 16
  deriving DecidableEq, Repr

/-- R341, R346–R349: lags, gains, pulse words, positions, in this order. -/
def noiseDraws (seed : BitVec 16) : NoiseDraws :=
  let a := cngRands seed [21, 19, 50, 50, 50, 50, 8192, 8192]
  let w0 := pulseWord (a.2.getD 6 0)
  let w1 := pulseWord (a.2.getD 7 0)
  let p0 := subframePositions a.1 0 w0.off0
  let p1 := subframePositions p0.1 1 w0.off1
  let p2 := subframePositions p1.1 2 w1.off0
  let p3 := subframePositions p2.1 3 w1.off1
  { lag0 := a.2.getD 0 0 + 123
    lag1 := a.2.getD 1 0 + 123
    gains := [a.2.getD 2 0 + 1, a.2.getD 3 0 + 1, a.2.getD 4 0 + 1, a.2.getD 5 0 + 1]
    pos0 := p0.2 ++ p1.2
    pos1 := p2.2 ++ p3.2
    sign0 := w0.signs
    sign1 := w1.signs
    seed := p3.1 }

/-- The fields of `S` that the draws write (R340, R346, R347). -/
def writeDraws (p : Params) (d : NoiseDraws) (c : Persistent) : Persistent :=
  let put (c : Persistent) (i : Nat) : Persistent := setSubframe c i fun sf =>
    { sf with adCbGain := BitVec.ofNat 8 (d.gains.getD i 0), adCbLag := cell p.cngAdaptiveCbLag i }
  put (put (put (put
    { c with cngRandomSeed := d.seed, pitchLag := #v[BitVec.ofNat 8 d.lag0, BitVec.ofNat 8 d.lag1] } 0) 1) 2) 3

/-! ### Pair amplitude -/

/-- The bitwise OR of the `|v[k]|` (R351). -/
def orAbs (v : List Int) : Nat := v.foldl (fun m x => m ||| x.natAbs) 0

/-- `sh` (R351). -/
def pairShift (v : List Int) : Int :=
  let m : Int := min (orAbs v : Int) 0x7FFF
  if m = 0 then 0 else max (log2Floor m - 10) (-2)

/-- A left or right shift by the sign of the amount (R352, R355): right by `sh`, left where `sh < 0`. -/
def shiftBy (v sh : Int) : Int := if sh < 0 then shl v (-sh).toNat else asr v sh.toNat

/-- `w` (R352). -/
def scaledPair (v : List Int) : List Int := v.map fun x => shiftBy x (pairShift v)

/-- `b0` (R353). -/
def pairB0 (w : List Int) (pos : List Nat) (sign : List Int) : Int :=
  asr (sum 11 (fun k => w.getD (pos.getD k 0) 0 * sign.getD k 0) * 2 * 2979 + 536870912) 30

/-- `c` (R354). -/
def pairC (w : List Int) (sh curGain : Int) : Int :=
  let c0 := curGain * asr (curGain * 60) 5
  asr ((clip32 (2 * sum 120 fun k => w.getD k 0 * w.getD k 0) - shiftBy c0 (2 * sh + 3)) * 2979) 15

/-- The root of smaller magnitude (R355). -/
def pairRoot (b0 c : Int) : Int :=
  let disc := 2 * (b0 * b0) - c
  if disc ≤ 0 then -b0
  else
    let d := squareRoot disc
    if |d + b0| < |d - b0| then -(d + b0) else d - b0

/-- The amplitude solve of the rules (R351–R355). -/
def rulesAmplitude (v : List Int) (pos : List Nat) (sign : List Int) (curGain : Int) : Int :=
  let sh := pairShift v
  let w := scaledPair v
  clip (shiftBy (pairRoot (pairB0 w pos sign) (pairC w sh curGain)) (-(sh + 1))) (-10000) 10000

/-- `CNG_AMPLITUDE` (92_eei_decisions.md D35). -/
def cngAmplitude (p : Params) (v : List Int) (pos : List Nat) (sign : List Int) (curGain : Int) : Int :=
  match p.cngAmplitude with
  | .rules => rulesAmplitude v pos sign curGain
  | .unspecified => Config.otherCngAmplitude v pos sign curGain

/-! ### Noise excitation -/

/-- The adaptive-codebook excitation of subframe `s` (R350). -/
def noiseSubframe (p : Params) (c : Persistent) (e : ExcBuf) (s : Nat) : Except Fault ExcBuf := do
  let acb ← adaptiveCodebook p.rom c.curRate e (60 * s) (lagOf c s) (subframeAt c s)
  .ok (writeSubframe e s fun j => rd acb j)

/-- The injection of the first `n` of the pair's 11 pulses (R356). -/
def injectPulses (e : ExcBuf) (base : Nat) (pos : List Nat) (sign : List Int) (x : Int) : ExcBuf :=
  loop 11 e fun e k =>
    let y := base + pos.getD k 0
    wr e y (clip16 (rd e y + asr (x * sign.getD k 0) 15))

/-- Pair `k` of the noise excitation (R350–R356): both subframes, then the amplitude, then its pulses. -/
def noisePair (p : Params) (c : Persistent) (e : ExcBuf) (k : Nat) (pos : List Nat) (sign : List Int) :
    Except Fault ExcBuf := do
  let e ← noiseSubframe p c e (2 * k)
  let e ← noiseSubframe p c e (2 * k + 1)
  let base := 146 + 120 * k
  let x := cngAmplitude p ((List.range 120).map fun i => rd e (base + i)) pos sign c.curGain.toInt
  .ok (injectPulses e base pos sign x)

/-- `GENERATE_NOISE` (R341, R350, R356): the state and the synthesis input. -/
def generateNoise (p : Params) (c : Persistent) : Except Fault (Persistent × Vector I16 240) := do
  let d := noiseDraws c.cngRandomSeed
  let c := writeDraws p d c
  let e ← noisePair p c (historyHead c.prevExcitation) 0 d.pos0 d.sign0
  let e ← noisePair p c e 1 d.pos1 d.sign1
  .ok ({ c with prevExcitation := slice e 240 146 }, slice e 146 240)

/-! ### SID gain -/

/-- `t` (R360), exact (93_implementation_defined.md W12). -/
def sidShifted (sidGain curGain : Int) : Int :=
  let sh := 16 - 2 * curGain
  if 0 < sh then shl sidGain sh.toNat else asr sidGain (-sh).toNat

/-- `u` (R360). -/
def sidLevel (seg val : Int) (seg2 : Nat) : Int := seg * 32 + shl val seg2

/-- The successive approximation of `val` (R360). -/
def sidSearch (x seg : Int) (seg2 sh : Nat) : Int × Int :=
  loop sh (shl 1 sh, asr (shl 1 sh) 1) fun p _ =>
    let u := sidLevel seg p.1 seg2
    (if u * u ≤ x then p.1 + p.2 else p.1 - p.2, asr p.2 1)

/-- The last correction of the result (R360). -/
def sidRefine (x seg val : Int) (seg2 : Nat) : Int :=
  let u := sidLevel seg val seg2
  let y := u * u - x
  let r := shl ((seg2 : Int) - 1) 4 + val
  if y ≤ 0 then
    let u := sidLevel seg (val + 1) seg2
    if y ≤ u * u - x then r + 1 else r
  else
    let u := sidLevel seg (val - 1) seg2
    if y ≤ u * u - x then r - 1 else r

/-- `ESTIMATE_SID_GAIN` of the rules (R360) for the scaled energy `x`. -/
def rulesSidGain (rom : Rom) (x : Int) : Int :=
  if rd rom.cngBseg 2 ≤ x then 63
  else
    let sh := if rd rom.cngBseg 1 ≤ x then 4 else 3
    let seg : Nat := if rd rom.cngBseg 1 ≤ x then 3 else if rd rom.cngBseg 0 ≤ x then 1 else 0
    clip (sidRefine x seg (sidSearch x seg (min seg 3) sh).1 (min seg 3)) 0 63

/-- `ESTIMATE_SID_GAIN` (R360, 92_eei_decisions.md D36). -/
def estimateSidGain (p : Params) (sidGain curGain : Int) : Int :=
  match p.estimateSidGain with
  | .rules => rulesSidGain p.rom (asr (sidShifted sidGain curGain * rd p.rom.cngFilt 0) 16)
  | .unspecified => ((Config.otherSidGain sidGain curGain p.rom).toNat : Int)

/-- `SID_GAIN_TO_LSP_INDEX` (R361). -/
def sidGainToLspIndex (g : Int) : Int :=
  if g < 16 then shl g 6 else if g < 32 then shl (g - 8) 7 else shl (g - 20) 8

/-- R362. -/
def smoothCurGain (p : Params) (c : Persistent) : Persistent :=
  if p.cngGainReset ∧ c.pastFrameType = .active then { c with curGain := c.sidGain }
  else { c with curGain := BitVec.ofInt 32 (asr (7 * c.curGain.toInt + c.sidGain.toInt) 3) }

end Sys2Proof.Machine
end

