-- ==== Sys2Proof/Machine/Lsp.lean ====
section
/-! DEFINITION. The LSP dequantizer, the LSP-to-LPC converter and the LSP interpolator (42_lsp.md R200–R212). -/

namespace Sys2Proof.Machine

/-- One LPC coefficient set per subframe (10_state.md R49). -/
abbrev LpcSets := Vector (Vector I16 10) 4

/-! ### Dequantizer -/

/-- `min_dist` (R200). -/
def minDist (bad : Bool) : Int := if bad then 0x200 else 0x100

/-- `pred` (R200). -/
def lspPred (bad : Bool) : Int := if bad then 23552 else 12288

/-- The index an LSP table is read at: a bad frame forces it to 0 (R200). -/
def lspIdx (idx : Vector (BitVec 8) 3) (bad : Bool) (k : Nat) : BitVec 8 := if bad then 0 else cell idx k

/-- Coefficient `k` of the band lookup (R201). -/
def bandLookup (rom : Rom) (idx : Vector (BitVec 8) 3) (bad : Bool) (k : Nat) : Int :=
  if k < 3 then rd (rom.lspBand0[(lspIdx idx bad 0).toNat]'(lspIdx idx bad 0).isLt) k
  else if k < 6 then rd (rom.lspBand1[(lspIdx idx bad 1).toNat]'(lspIdx idx bad 1).isLt) (k - 3)
  else rd (rom.lspBand2[(lspIdx idx bad 2).toNat]'(lspIdx idx bad 2).isLt) (k - 6)

/-- The vector after the predictive DC step (R202), stored by `wrap_16` (93_implementation_defined.md W1). -/
def predictDc (rom : Rom) (prev : Vector I16 10) (idx : Vector (BitVec 8) 3) (bad : Bool) : Vector I16 10 :=
  build fun i => bandLookup rom idx bad i + rd rom.dcLsp i
    + asr ((rd prev i - rd rom.dcLsp i) * lspPred bad + 16384) 15

/-- The move of the pair `(j − 1, j)` (R203), stored by `wrap_16` (W2). -/
def pairMove (dist : Int) (out : Vector I16 10) (j : Nat) : Vector I16 10 :=
  let t := dist + rd out (j - 1) - rd out j
  if 0 < t then wr (wr out (j - 1) (rd out (j - 1) - asr t 1)) j (rd out j + asr t 1) else out

/-- One iteration of the stability loop before its test (R203). -/
def stabilityPass (dist : Int) (out : Vector I16 10) : Vector I16 10 :=
  let out := wr out 0 (max (rd out 0) 0x180)
  let out := wr out 9 (min (rd out 9) 0x7E00)
  loop 9 out fun o k => pairMove dist o (k + 1)

/-- The stability test (R203). -/
def isStable (dist : Int) (out : Vector I16 10) : Bool :=
  (List.range 9).all fun k => decide (rd out k + dist - rd out (k + 1) - 4 ≤ 0)

/-- The stability loop: up to 10 iterations, ending at the first stable one (R203). -/
def stabilityLoop (dist : Int) (out : Vector I16 10) : Vector I16 10 × Bool :=
  loop 10 (out, false) fun p _ =>
    if p.2 then p else (stabilityPass dist p.1, isStable dist (stabilityPass dist p.1))

/-- `LSP_DEQUANT` (R200–R203): the stable vector, or `prev` when ten iterations do not reach one. -/
def lspDequant (rom : Rom) (prev : Vector I16 10) (idx : Vector (BitVec 8) 3) (bad : Bool) : Vector I16 10 :=
  let p := stabilityLoop (minDist bad) (predictDc rom prev idx bad)
  if p.2 then p.1 else prev

/-! ### LSP to LPC -/

/-- The negative cosine of one LSP value (R207), with the wraps W3 and W4. -/
def negCos (tab : CosTable) (v : Int) : Except Fault Int :=
  let index := asr v 7
  let offset := lowBits v 7
  if index < 0 ∨ (tab.len : Int) ≤ index + 1 then .error .romIndexFault
  else
    let a := rd tab.entries index.toNat
    let b := rd tab.entries (index.toNat + 1)
    let t1 := shl a 16
    let t2 := shl ((b - a) * (shl offset 8 + 0x80)) 1
    .ok (wrap16 (-(asr (satDadd32 32768 (wrap32 (t1 + t2))) 16)))

/-- The initial polynomial from its first two negative cosines (R208). -/
def polyInit (a b : Int) : Vector I32 6 :=
  wr (wr (wr (Vector.replicate 6 0) 0 (shl 1 28)) 1 (shl a 14 + shl b 14)) 2 (a * b + shl 2 28)

/-- Step `i` of the extension of a polynomial by the negative cosine `x` (R209). -/
def polyStep (f : Vector I32 6) (i : Nat) (x : Int) : Vector I32 6 :=
  let f := wr f (i + 1) (rd f (i - 1) + mull2 (rd f i) x)
  let f := loop (i - 1) f fun f k =>
    let j := i - k
    wr f j (mull2 (rd f (j - 1)) x + asr (rd f j) 1 + asr (rd f (j - 2)) 1)
  let f := wr f 0 (asr (rd f 0) 1)
  wr f 1 (asr (asr (shl x 16) i + rd f 1) 1)

/-- The Q25 polynomial of five negative cosines (R208, R209). -/
def poly (x0 x1 x2 x3 x4 : Int) : Vector I32 6 :=
  polyStep (polyStep (polyStep (polyInit x0 x1) 2 x2) 3 x3) 4 x4

/-- The LPC coefficients of the two polynomials (R210). -/
def lpcOf (f1 f2 : Vector I32 6) : Vector I16 10 :=
  build fun k =>
    let i := if k < 5 then k else 9 - k
    let ff1 := rd f1 (i + 1) + rd f1 i
    let ff2 := rd f2 (i + 1) - rd f2 i
    if k < 5 then asr (clip32 (shl (ff1 + ff2) 3 + 32768)) 16
    else asr (clip32 (shl (ff1 - ff2) 3 + 32768)) 16

/-- `LSP2LPC` (R206–R210). -/
def lsp2lpc (tab : CosTable) (v : Vector I16 10) : Except Fault (Vector I16 10) := do
  let n0 ← negCos tab (rd v 0)
  let n1 ← negCos tab (rd v 1)
  let n2 ← negCos tab (rd v 2)
  let n3 ← negCos tab (rd v 3)
  let n4 ← negCos tab (rd v 4)
  let n5 ← negCos tab (rd v 5)
  let n6 ← negCos tab (rd v 6)
  let n7 ← negCos tab (rd v 7)
  let n8 ← negCos tab (rd v 8)
  let n9 ← negCos tab (rd v 9)
  .ok (lpcOf (poly n0 n2 n4 n6 n8) (poly n1 n3 n5 n7 n9))

/-! ### Interpolator -/

/-- The interpolated LSP vector of subframe `s` (R212). -/
def interpolated (cur prev : Vector I16 10) (s : Nat) : Vector I16 10 :=
  if s = 0 then build fun i => wsum (rd cur i) (rd prev i) 4096 12288 8192 14
  else if s = 1 then build fun i => wsum (rd cur i) (rd prev i) 8192 8192 8192 14
  else if s = 2 then build fun i => wsum (rd cur i) (rd prev i) 12288 4096 8192 14
  else cur

/-- `LSP_INTERP` (R212). -/
def lspInterp (tab : CosTable) (cur prev : Vector I16 10) : Except Fault LpcSets := do
  let l0 ← lsp2lpc tab (interpolated cur prev 0)
  let l1 ← lsp2lpc tab (interpolated cur prev 1)
  let l2 ← lsp2lpc tab (interpolated cur prev 2)
  let l3 ← lsp2lpc tab (interpolated cur prev 3)
  .ok #v[l0, l1, l2, l3]

end Sys2Proof.Machine
end

