-- ==== Sys2Proof/Machine/Postfilter.lean ====
section
/-! DEFINITION. The pitch post-filter and the formant post-filter (45_postfilter.md R290–R319). -/

namespace Sys2Proof.Machine

/-! ### Pitch post-filter -/

/-- `ppf[j]` (R290). -/
structure PpfCoeff where
  index : Int
  optGain : Int
  scGain : Int
  deriving DecidableEq, Repr

/-- The five energies `e[0..5)` (R290): target, forward correlation and energy, backward correlation and energy. -/
structure PpfEnergies where
  tgt : Int
  fwdCcr : Int
  fwdRes : Int
  bwdCcr : Int
  bwdRes : Int
  deriving DecidableEq, Repr

/-- `ppf_gain_weight[S.cur_rate]` (R294). -/
def ppfWeight (p : Params) (rate : Rate) : Int :=
  match rate with
  | .r6300 => p.ppfGainWeight6300.toInt
  | .r5300 => p.ppfGainWeight5300.toInt

/-- R291: one energy scaled by the leading zeros of the largest. -/
def normEnergy (sh : Nat) (x : Int) : Int := asr (shl x sh) 16

/-- R291. -/
def PpfEnergies.normalize (e : PpfEnergies) : PpfEnergies :=
  let m := max e.tgt (max e.fwdCcr (max e.fwdRes (max e.bwdCcr e.bwdRes)))
  let sh := (normalizeBits m 31).toNat
  { tgt := normEnergy sh e.tgt, fwdCcr := normEnergy sh e.fwdCcr, fwdRes := normEnergy sh e.fwdRes,
    bwdCcr := normEnergy sh e.bwdCcr, bwdRes := normEnergy sh e.bwdRes }

/-- `PPF_TEST_SHIFT` as a number (R293). -/
def ppfShift (p : Params) : Nat := if p.ppfTestShift then 1 else 0

/-- `opt` of the true branch (R293). -/
def ppfOpt (w ccr res : Int) : Int := if res ≤ ccr then w else asr (quot (shl ccr 15) res * w) 15

/-- `pf_res` (R293). -/
def ppfRes (tgt ccr res opt : Int) : Int :=
  asr (satAdd32 (shl tgt 15 + shl (ccr * opt) 1) (asr (opt * opt) 15 * res + 32768)) 16

/-- `sc` of the true branch (R293). -/
def ppfScale (tgt pfRes : Int) : Int :=
  squareRoot (shl (if shl pfRes 1 ≤ tgt then 0x7FFF else quot (shl tgt 14) pfRes) 16)

/-- `PPF_GAINS` (R293) with the weight `w` of the rate. -/
def ppfGains (p : Params) (w lag tgt ccr res : Int) : PpfCoeff :=
  if asr (tgt * res) (ppfShift p) < 2 * (ccr * ccr) then
    let opt := ppfOpt w ccr res
    let sc := ppfScale tgt (ppfRes tgt ccr res opt)
    { index := lag, optGain := clip16 (asr (opt * sc) 15), scGain := sc }
  else { index := lag, optGain := 0, scGain := 0x7FFF }

/-- `(x² + 2^14) >> 15`, the square of the rounded test (R292). -/
def roundedSquare (x : Int) : Int := asr (x * x + 16384) 15

/-- `CASE3_FWD` (R292); a tie picks forward. -/
def case3Forward (p : Params) (e : PpfEnergies) : Bool :=
  match p.ppfCase3Rounding with
  | .exact => decide (e.fwdRes * (e.bwdCcr * e.bwdCcr) ≤ e.bwdRes * (e.fwdCcr * e.fwdCcr))
  | .rounded => decide (e.fwdRes * roundedSquare e.bwdCcr ≤ e.bwdRes * roundedSquare e.fwdCcr)

/-- The case selection (R292) on the normalized energies. -/
def ppfSelect (p : Params) (w fwd bwd : Int) (e : PpfEnergies) : PpfCoeff :=
  if 0 < fwd ∧ bwd = 0 then ppfGains p w fwd e.tgt e.fwdCcr e.fwdRes
  else if fwd = 0 then ppfGains p w (-bwd) e.tgt e.bwdCcr e.bwdRes
  else if case3Forward p e then ppfGains p w fwd e.tgt e.fwdCcr e.fwdRes
  else ppfGains p w (-bwd) e.tgt e.bwdCcr e.bwdRes

/-- `PPF_COEFF(j)` (R290–R293) over the normalized buffer `Y`. -/
def ppfCoeff (p : Params) (c : Persistent) (y : ExcBuf) (j : Nat) : PpfCoeff :=
  let b := 146 + 60 * j
  let f := autocorrMax y b (lagOf c j) 60 .forward
  let g := autocorrMax y b (lagOf c j) 60 .backward
  if f.1 = 0 ∧ g.1 = 0 then { index := 0, optGain := 0, scGain := 0x7FFF }
  else
    let e : PpfEnergies :=
      { tgt := energyAt y b 60
        fwdCcr := f.2
        fwdRes := if 0 < f.1 then energyAt y (b + f.1) 60 else 0
        bwdCcr := g.2
        bwdRes := if 0 < g.1 then energyAt y (b - g.1) 60 else 0 }
    ppfSelect p (ppfWeight p c.curRate) f.1 g.1 e.normalize

/-- One sample of the combination (R300) at position `x` of `E`. -/
def ppfSample (e : ExcBuf) (k : PpfCoeff) (x : Nat) : Int :=
  wsum (rd e x) (rdAt e (x + k.index)) k.scGain k.optGain 16384 15

/-- The post-filtered excitation (R300): all four coefficient sets come from `Y` before a sample is combined. -/
def pitchPostfilter (p : Params) (c : Persistent) (e y : ExcBuf) : Vector I16 240 :=
  let k0 := ppfCoeff p c y 0
  let k1 := ppfCoeff p c y 1
  let k2 := ppfCoeff p c y 2
  let k3 := ppfCoeff p c y 3
  build fun i => ppfSample e (if i < 60 then k0 else if i < 120 then k1 else if i < 180 then k2 else k3) (146 + i)

/-! ### Formant post-filter -/

/-- The buffer `A` of the frame (10_state.md R49). -/
abbrev AudioBuf := Vector I16 250

/-- The buffer `F` of the frame (10_state.md R49). -/
abbrev FormantBuf := Vector I32 250

/-- `FPF_COEF_RND` as a number (R311). -/
def fpfRnd (p : Params) : Int := if p.fpfCoefRnd then 16384 else 0

/-- `FPF_REFL_SHIFT` as a number (R315). -/
def fpfShift (p : Params) : Nat := if p.fpfReflShift then 2 else 0

/-- A coefficient vector of the formant filter (R311), stored by `wrap_16` (W9). -/
def fpfCoef (p : Params) (lpc weights : Vector I16 10) : Vector I16 10 :=
  build fun k => asr (-(rd lpc k) * rd weights k + fpfRnd p) 15

/-- `A` as the formant filter reads it: `A[0..10)` holds `fir_mem` (R310). -/
def formantInput (firMem : Vector I16 10) (a : AudioBuf) : AudioBuf :=
  build fun x => if x < 10 then rd firMem x else rd a x

/-- One sample of the IIR filter (R312). -/
def iirSample (fir iir : Vector I16 10) (a : AudioBuf) (f : FormantBuf) (x : Nat) : Int :=
  let acc := sum 10 fun n => rd iir n * asr (rd f (x - (n + 1))) 16 - rd fir n * rd a (x - (n + 1))
  clip32 (shl (rd a x) 16 + 8 * acc + 32768)

/-- The 60 samples of subframe `j` (R311, R312). -/
def iirSubframe (p : Params) (lpc : LpcSets) (a : AudioBuf) (f : FormantBuf) (j : Nat) : FormantBuf :=
  let l := if h : j < 4 then lpc[j] else Vector.replicate 10 0
  let fir := fpfCoef p l p.rom.postfilterFir
  let iir := fpfCoef p l p.rom.postfilterIir
  loop 60 f fun f m => wr f (10 + 60 * j + m) (iirSample fir iir a f (10 + 60 * j + m))

/-- `F` after all four subframes, `F[0..10)` holding `iir_mem` (R310–R312). -/
def iirFilter (p : Params) (lpc : LpcSets) (iirMem : Vector I32 10) (a : AudioBuf) : FormantBuf :=
  loop 4 (build fun x => if x < 10 then rd iirMem x else 0) fun f j => iirSubframe p lpc a f j

/-- The reflection estimate `r` (R315); 0 for a zero divisor. -/
def reflEstimate (p : Params) (ac0 ac1 : Int) : Int :=
  if asr ac1 16 = 0 then 0 else quot (asr ac0 (fpfShift p)) (asr ac1 16)

/-- R315. -/
def reflUpdate (p : Params) (refl ac0 ac1 : Int) : Int := asr (3 * refl + reflEstimate p ac0 ac1 + 2) 2

/-- The compensation coefficient `c` (R316). -/
def compCoef (refl : Int) : Int := clearLow2 (asr (-refl) 1)

/-- One sample of the compensation filter (R316), its product reduced by `wrap_32` (W10). -/
def compSample (f : FormantBuf) (coef : Int) (x : Nat) : Int :=
  asr (satDadd32 (rd f x) (wrap32 (asr (rd f (x - 1)) 16 * coef))) 16

/-- R317. -/
def normalizedEnergy (sc ac1 : Int) : Int :=
  let t := 2 * sc + 4
  if t < 0 then clip32 (shl ac1 (-t).toNat) else asr ac1 t.toNat

/-- `GAIN_SCALE` (R318). -/
def gainScale (d : SubframeVec) (energy : Int) : Int :=
  let den := loop 60 0 fun acc i => satDadd32 acc (asr (rd d i) 2 * asr (rd d i) 2)
  if energy ≠ 0 ∧ den ≠ 0 then
    let b1 := normalizeBits energy 31
    let b2 := normalizeBits den 31
    let num := asr (shl energy b1.toNat) 1
    let den := shl den b2.toNat
    let b2 := max 0 (5 + b1 - b2)
    squareRoot (asr (shl (quot (asr num 1) (asr den 16)) 16) b2.toNat)
  else 4096

/-- The smoother of `pf_gain` (R319). -/
def smoothGain (pf gain : Int) : Int := asr (15 * pf + gain + 8) 4

/-- The scaling of one sample (R319). -/
def scaleSample (d pf : Int) : Int := clip16 (asr (d * (pf + asr pf 4) + 1024) 11)

/-- Gain smoothing and scaling of one subframe (R319): `pf_gain` moves once per sample, before the sample is scaled. -/
def scaleSubframe (d : SubframeVec) (gain : Int) (pf : I32) (out : Vector I16 240) (j : Nat) : I32 × Vector I16 240 :=
  loop 60 (pf, out) fun p i =>
    let pf := BitVec.ofInt 32 (smoothGain p.1.toInt gain)
    (pf, wr p.2 (60 * j + i) (scaleSample (rd d i) pf.toInt))

/-- What the formant post-filter carries from subframe to subframe (R315, R319). -/
structure FormantState where
  refl : I32
  pf : I32
  out : Vector I16 240
  deriving DecidableEq, Repr

/-- Subframe `j` of the second half of the formant post-filter (R314–R319). -/
def formantSubframe (p : Params) (a : AudioBuf) (f : FormantBuf) (q : FormantState) (j : Nat) : FormantState :=
  let src : SubframeVec := slice a (10 + 60 * j) 60
  let d := scaleVector src
  let ac0 := dot 59 (fun k => rd d k) fun k => rd d (k + 1)
  let ac1 := dot 60 (fun k => rd d k) fun k => rd d k
  let refl : I32 := BitVec.ofInt 32 (reflUpdate p q.refl.toInt ac0 ac1)
  let comp : SubframeVec := build fun i => compSample f (compCoef refl.toInt) (10 + 60 * j + i)
  let r := scaleSubframe comp (gainScale comp (normalizedEnergy (scaleShift src) ac1)) q.pf q.out j
  { refl := refl, pf := r.1, out := r.2 }

/-- `FORMANT_PF` (R310–R319): the state it leaves and the 240 output samples. -/
def formantPostfilter (p : Params) (c : Persistent) (lpc : LpcSets) (audio : AudioBuf) : Persistent × Vector I16 240 :=
  let a := formantInput c.firMem audio
  let f := iirFilter p lpc c.iirMem a
  let q := loop 4 { refl := c.reflectionCoef, pf := c.pfGain, out := Vector.replicate 240 0 }
    fun q j => formantSubframe p a f q j
  ({ c with firMem := slice a 240 10, iirMem := slice f 240 10, reflectionCoef := q.refl, pfGain := q.pf }, q.out)

end Sys2Proof.Machine
end

