-- ==== Sys2Proof/Machine/Synthesis.lean ====
section
/-! DEFINITION. LP synthesis and the output stage (46_synthesis_cng.md R330–R333). -/

namespace Sys2Proof.Machine

/-- One synthesized sample (R330), the sum exact (93_implementation_defined.md W11); `A[x]` holds the filter input. -/
def synthSample (a : Vector I16 10) (buf : AudioBuf) (x : Nat) : Int :=
  let acc := 4096 - sum 10 fun i => rd a i * rd buf (x - (i + 1))
  clip16 (asr (asr acc 12 + rd buf x) 1)

/-- `SYNTH_SUBFRAME` (R330): 60 samples in place from position `x` on. -/
def synthSubframe (a : Vector I16 10) (buf : AudioBuf) (x : Nat) : AudioBuf :=
  loop 60 buf fun b n => wr b (x + n) (synthSample a b (x + n))

/-- `A` before the synthesis: the filter memory, then the synthesis input (R331, R332). -/
def synthInput (mem : Vector I16 10) (input : Vector I16 240) : AudioBuf :=
  build fun x => if x < 10 then rd mem x else rd input (x - 10)

/-- `SYNTHESIZE` (R331). -/
def synthesize (mem : Vector I16 10) (lpc : LpcSets) (input : Vector I16 240) : AudioBuf :=
  let a := synthSubframe lpc[0] (synthInput mem input) 10
  let a := synthSubframe lpc[1] a 70
  let a := synthSubframe lpc[2] a 130
  synthSubframe lpc[3] a 190

/-- The output without the post-filter (R333). -/
def plainOutput (a : AudioBuf) : Vector I16 240 := build fun i => clip16 (shl (rd a (10 + i)) 1)

/-- The output stage (R333): the state it leaves and `OUT`. -/
def outputStage (p : Params) (c : Persistent) (lpc : LpcSets) (a : AudioBuf) : Persistent × Vector I16 240 :=
  if c.postfilter then formantPostfilter p c lpc a else (c, plainOutput a)

end Sys2Proof.Machine
end

