-- ==== Sys2Proof/Machine/Unpack.lean ====
section
/-! DEFINITION. The bitstream unpacker (41_unpack.md R170–R186). A field is read at its fixed place of the stream, so the
unpacker takes the decoded operands and writes them in reading order; a failing check leaves what was written before it (R185). -/

namespace Sys2Proof.Machine

/-- The end of `UNPACK()` (R170): `.ok c` where it returned `ok`, `.error c` where it returned `fail`, with the `S` it left. -/
abbrev Unpacked := Except Persistent Persistent

/-- R173: `lsp_index[2]`, `lsp_index[1]`, `lsp_index[0]`. -/
def writeLspIndex (c : Persistent) (i2 i1 i0 : BitVec 8) : Persistent := { c with lspIndex := #v[i0, i1, i2] }

/-- R178: the gain word of subframe `i`. -/
def unpackGain (c : Persistent) (i : Nat) (t : BitVec 12) : Unpacked :=
  let g := gainOperand c.curRate (lagOf c i) t
  let c1 := setSubframe c i fun sf => { sf with diracTrain := g.diracTrain }
  if g.tableLen ≤ g.gain then .error c1
  else .ok (setSubframe c1 i fun sf =>
    { sf with adCbGain := BitVec.ofNat 8 g.gain, ampIndex := BitVec.ofNat 6 g.amp })

/-- R175: the pitch codes and lags, after the rate and the frame type are written. -/
def unpackPitch (c : Persistent) (h : ActiveHeader) : Unpacked :=
  if pitchForbidden h.pitchCode0 then .error c
  else
    let c1 := setSubframe { c with pitchLag := c.pitchLag.set 0 (pitchLagOf h.pitchCode0) } 1
      fun sf => { sf with adCbLag := h.adCbLag1 }
    if pitchForbidden h.pitchCode1 then .error c1
    else
      let c2 := setSubframe { c1 with pitchLag := c1.pitchLag.set 1 (pitchLagOf h.pitchCode1) } 3
        fun sf => { sf with adCbLag := h.adCbLag3 }
      .ok (setSubframe (setSubframe c2 0 fun sf => { sf with adCbLag := 1 }) 2 fun sf => { sf with adCbLag := 1 })

/-- R173, R175, R176, R179: everything up to stream bit 95. -/
def unpackHeader (c : Persistent) (rate : Rate) (h : ActiveHeader) : Unpacked := do
  let c ← unpackPitch
    { writeLspIndex c h.lspIndex2 h.lspIndex1 h.lspIndex0 with curRate := rate, curFrameType := .active } h
  let c ← unpackGain c 0 h.gainWord0
  let c ← unpackGain c 1 h.gainWord1
  let c ← unpackGain c 2 h.gainWord2
  let c ← unpackGain c 3 h.gainWord3
  let c := setSubframe c 0 fun sf => { sf with gridIndex := h.grid0 }
  let c := setSubframe c 1 fun sf => { sf with gridIndex := h.grid1 }
  let c := setSubframe c 2 fun sf => { sf with gridIndex := h.grid2 }
  .ok (setSubframe c 3 fun sf => { sf with gridIndex := h.grid3 })

/-- The pulse position and sign of subframe `i` (R180–R182). -/
def writePulse (c : Persistent) (i : Nat) (pos : BitVec 32) (sign : BitVec 8) : Persistent :=
  setSubframe c i fun sf => { sf with pulsePos := pos, pulseSign := sign }

/-- `UNPACK()` of F63 (R175, R176, R179–R181). -/
def unpack63 (f : Frame63) (c : Persistent) : Unpacked := do
  let c ← unpackHeader c .r6300 f.header
  let d := posDigits f.posWord
  let c := writePulse c 0 (pulsePos63 d.1 16 f.posTail0.toNat) (f.sign0.setWidth 8)
  let c := writePulse c 1 (pulsePos63 d.2.1 14 f.posTail1.toNat) (f.sign1.setWidth 8)
  let c := writePulse c 2 (pulsePos63 d.2.2.1 16 f.posTail2.toNat) (f.sign2.setWidth 8)
  .ok (writePulse c 3 (pulsePos63 d.2.2.2 14 f.posTail3.toNat) (f.sign3.setWidth 8))

/-- `UNPACK()` of F53 (R175, R176, R179, R182). -/
def unpack53 (f : Frame53) (c : Persistent) : Unpacked := do
  let c ← unpackHeader c .r5300 f.header
  let c := writePulse c 0 (f.pos0.setWidth 32) (f.sign0.setWidth 8)
  let c := writePulse c 1 (f.pos1.setWidth 32) (f.sign1.setWidth 8)
  let c := writePulse c 2 (f.pos2.setWidth 32) (f.sign2.setWidth 8)
  .ok (writePulse c 3 (f.pos3.setWidth 32) (f.sign3.setWidth 8))

/-- `UNPACK()` of FSID (R173, R174): it never fails and does not write the rate. -/
def unpackSid (f : SidFrame) (c : Persistent) : Unpacked :=
  .ok (setSubframe { writeLspIndex c f.lspIndex2 f.lspIndex1 f.lspIndex0 with curFrameType := .sid } 0
    fun sf => { sf with ampIndex := f.ampIndex })

/-- `UNPACK()` of FUNT (R172): only the frame type is written. -/
def unpackUntx (c : Persistent) : Unpacked := .ok { c with curFrameType := .untransmitted }

/-- `S` after UNPACK and the bad-frame remap (R186). -/
def remapped (u : Unpacked) : Persistent :=
  match u with
  | .ok c => { c with curFrameType := remap c.curFrameType true c.pastFrameType }
  | .error c => { c with curFrameType := remap c.curFrameType false c.pastFrameType }

/-- `bad_frame` (R186). -/
def badFrame (u : Unpacked) : Bool :=
  match u with
  | .ok _ => false
  | .error _ => true

end Sys2Proof.Machine
end

