-- ==== Sys2Proof/Machine/FrameControl.lean ====
section
/-! DEFINITION. The decode of one frame (47_frame_control.md R370–R382), shared by the four frame types. -/

namespace Sys2Proof.Machine

/-- What the part of a decode that depends on the frame type hands to the common tail: the state so far, the LPC sets, and the
synthesis input `A[10..250)` (R332). -/
structure SynthesisJob where
  core : Persistent
  lpc : LpcSets
  input : Vector I16 240
  deriving DecidableEq, Repr

/-! ### ACTIVE frames -/

/-- R373. -/
def countErasure (bad : Bool) (c : Persistent) : Persistent :=
  { c with erasedFrames := if bad then min (c.erasedFrames + 1) 3 else 0 }

/-- The dequantized LSP vector of an ACTIVE frame (R374, 42_lsp.md R200). -/
def activeLsp (p : Params) (c : Persistent) (bad : Bool) : Vector I16 10 := lspDequant p.rom c.prevLsp c.lspIndex bad

/-- The seed reset at the end of every ACTIVE frame (R376). -/
def resetCngSeed (c : Persistent) : Persistent := { c with cngRandomSeed := 12345 }

/-- A good ACTIVE frame (R375): the state with the history head already taken, and the synthesis input. -/
def goodActive (p : Params) (c : Persistent) : Except Fault (Persistent × Vector I16 240) := do
  let c ← updateInterpGain p c
  let e ← excitation p c
  let y := scaleVector e
  let c := classify c y (scaleShift e)
  let input := if c.postfilter then pitchPostfilter p c e y else slice e 146 240
  .ok ({ c with prevExcitation := slice e 240 146 }, input)

/-- An erased ACTIVE frame (R376): decay, then the mute or the interpolated residual. -/
def erasedActive (c : Persistent) : Except Fault (Persistent × Vector I16 240) :=
  let c := decayGain c
  if c.erasedFrames = 3 then .ok (mute c, Vector.replicate 240 0) else concealResidual c

/-- R375 for a good frame, R376 for an erased one. -/
def activeExcitation (p : Params) (c : Persistent) : Except Fault (Persistent × Vector I16 240) :=
  if c.erasedFrames = 0 then goodActive p c else erasedActive c

/-- The ACTIVE part of a decode (R370 step 3): R373, R374, then R375 or R376, then the seed reset. -/
def decodeActive (p : Params) (bad : Bool) (c : Persistent) : Except Fault SynthesisJob := do
  let c := countErasure bad c
  let cur := activeLsp p c bad
  let lpc ← lspInterp p.rom.cosTab cur c.prevLsp
  let r ← activeExcitation p { c with prevLsp := cur }
  .ok { core := resetCngSeed r.1, lpc := lpc, input := r.2 }

/-! ### SID and UNTRANSMITTED frames -/

/-- The gain target and the reference LSP (R377), before the smoothing. -/
def sidUpdate (p : Params) (c : Persistent) : Persistent :=
  match c.curFrameType with
  | .sid =>
    { c with
      sidGain := BitVec.ofInt 32 (sidGainToLspIndex ((subframeAt c 0).ampIndex.toNat : Int))
      sidLsp := lspDequant p.rom c.prevLsp c.lspIndex false }
  | .untransmitted =>
    if c.pastFrameType = .active then
      { c with sidGain := BitVec.ofInt 32 (sidGainToLspIndex (estimateSidGain p c.sidGain.toInt c.curGain.toInt)) }
    else c
  | .active => c

/-- The SID and UNTRANSMITTED part of a decode (R370 step 4): R377, R378. -/
def decodeNoise (p : Params) (c : Persistent) : Except Fault SynthesisJob := do
  let c := smoothCurGain p (sidUpdate p c)
  let r ← generateNoise p c
  let lpc ← lspInterp p.rom.cosTab r.1.sidLsp r.1.prevLsp
  .ok { core := { r.1 with prevLsp := r.1.sidLsp }, lpc := lpc, input := r.2 }

/-! ### The whole decode -/

/-- The part of a decode that depends on the frame type after the remap (R370 steps 3, 4). -/
def decodeByType (p : Params) (bad : Bool) (c : Persistent) : Except Fault SynthesisJob :=
  match c.curFrameType with
  | .active => decodeActive p bad c
  | .sid => decodeNoise p c
  | .untransmitted => decodeNoise p c

/-- The common tail (R379–R381): synthesis, output stage, and `past_frame_type`. -/
def finish (p : Params) (j : SynthesisJob) : Persistent × Vector I16 240 :=
  let a := synthesize j.core.synthMem j.lpc j.input
  let r := outputStage p { j.core with synthMem := slice a 240 10 } j.lpc a
  ({ r.1 with pastFrameType := r.1.curFrameType }, r.2)

/-- R370 steps 2 to 6 after UNPACK ended with `u`: the new `S` and the output. -/
def decodeUnpacked (p : Params) (u : Unpacked) : Except Fault (Persistent × Vector I16 240) := do
  let j ← decodeByType p (badFrame u) (remapped u)
  .ok (finish p j)

/-- The registers after a decode that produced samples (R371, R381). -/
def reportDecode (size : Nat) (bad : Bool) (out : Vector I16 240) (r : HostRegs) : HostRegs :=
  { r with err := .ok, bad := bad, consumed := BitVec.ofNat 8 size, samples := 240, out := out }

/-- ShortFrame for a frame of `size` bytes (R371). Every size is at least 1, so this covers `IN_LEN = 0`. -/
def isShort (size : Nat) (s : State) : Bool := decide (s.regs.inLen.toNat < size)

/-- DECODE of a frame of `size` bytes whose unpacking is `unpack` (R370). -/
def runFrame (size : Nat) (unpack : Persistent → Unpacked) (s : State) : Except Fault State :=
  if isShort size s then .ok (raiseShortFrame s)
  else do
    let u := unpack s.core
    let r ← decodeUnpacked s.params u
    .ok { s with core := r.1, regs := reportDecode size (badFrame u) r.2 s.regs }

end Sys2Proof.Machine
end

