-- ==== Sys2Proof/Machine/Commands.lean ====
section
/-! DEFINITION. One meaning for each instruction (47_frame_control.md R370, R384–R389). -/

namespace Sys2Proof.Machine

/-- `NOP` (R385): nothing changes. -/
def execNop (s : State) : Host.Outcome State Fault Refusal := .next s

/-- `RESET` (R384): `S` and the host registers take their reset values, but for `postfilter`, which keeps its value. The ROM and
the parameters are not state a command writes (R435), and the host's accesses are its own. -/
def execReset (s : State) : Host.Outcome State Fault Refusal :=
  .next { s with core := Persistent.reset s.params.rom.dcLsp s.core.postfilter, regs := HostRegs.reset }

/-- `FRAME63` (R386): DECODE of an ACTIVE frame at 6300 bit/s. -/
def execFrame63 (f : Frame63) (s : State) : Host.Outcome State Fault Refusal := toOutcome (runFrame 24 (unpack63 f) s)

/-- `FRAME53` (R387): DECODE of an ACTIVE frame at 5300 bit/s. -/
def execFrame53 (f : Frame53) (s : State) : Host.Outcome State Fault Refusal := toOutcome (runFrame 20 (unpack53 f) s)

/-- `SID` (R388): DECODE of a SID frame. -/
def execSid (f : SidFrame) (s : State) : Host.Outcome State Fault Refusal := toOutcome (runFrame 4 (unpackSid f) s)

/-- `UNTX` (R389): DECODE of an UNTRANSMITTED frame; the bits of its byte above `info_bits` are not read (R103). -/
def execUntx (_ignored : BitVec 6) (s : State) : Host.Outcome State Fault Refusal := toOutcome (runFrame 1 unpackUntx s)

/-- `IN_BYTES` as the frame bit stream (20_memory.md R73). -/
def inputStream (s : State) : BitVec 192 := streamOf s.regs.inBytes.toList

/-- `DECODE` (R370): the frame in `IN_BYTES`, selected by its first two bits (R101, R102), is decoded. `IN_BYTES` and `IN_LEN`
are read as they stand when the command runs (R81). -/
def execDecode (s : State) : Host.Outcome State Fault Refusal :=
  let w := inputStream s
  if infoBits w = 0 then execFrame63 (Frame63.ofStream w) s
  else if infoBits w = 1 then execFrame53 (Frame53.ofStream w) s
  else if infoBits w = 2 then execSid (SidFrame.ofStream w) s
  else execUntx (field w 2 6) s

end Sys2Proof.Machine
end

