-- ==== Sys2Proof/Machine/Dispatch.lean ====
section
/-! DEFINITION. The meaning of every instruction, one arm per constructor of Instr. -/

namespace Sys2Proof.Machine

def exec (i : Instr) (s : State) : Host.Outcome State Fault Refusal :=
  match i with
  | .nop => Sys2Proof.Machine.execNop s
  | .reset => Sys2Proof.Machine.execReset s
  | .decode => Sys2Proof.Machine.execDecode s
  | .frame63 f => Sys2Proof.Machine.execFrame63 f s
  | .frame53 f => Sys2Proof.Machine.execFrame53 f s
  | .sid f => Sys2Proof.Machine.execSid f s
  | .untx b => Sys2Proof.Machine.execUntx b s

end Sys2Proof.Machine
end

