-- ==== Sys2Proof/Machine/HostPort.lean ====
section
/-! DEFINITION. What a host access does (20_memory.md R74–R77): its single-byte accesses in increasing order, each write of `CMD`
running its command before the next byte; and how an instruction is placed where the next step finds it. -/

namespace Sys2Proof.Machine

/-- A byte written to `CMD` (R75, R120): the command it selects runs; a reserved value is BadCommand (60_exceptions.md R403). -/
def runCommand (v : Byte) (s : State) : Host.Outcome State Fault Refusal :=
  match decodeCommand v with
  | .ok i => exec i s
  | .error _ => .next (raiseBadCommand s)

/-- One single-byte write (R75). -/
def writeByte (s : State) (a : Nat) (v : Byte) : Host.Outcome State Fault Refusal :=
  if inWindow a then (if a = 0 then runCommand v s else .next (storeByte s a v)) else .fault .outsideWindow

/-- The single-byte writes of a list, at `a`, `a + 1`, … in order (R74). -/
def writeBytes (s : State) (a : Nat) : List Byte → Host.Outcome State Fault Refusal
  | [] => .next s
  | v :: vs =>
    match writeByte s a v with
    | .next t => writeBytes t (a + 1) vs
    | .fault e => .fault e
    | .refused r => .refused r

/-- A whole access lies in the window (R71). -/
def accessInWindow (a n : Nat) : Bool := decide (a + n ≤ 0x300)

/-- One host access (R74, R75): a read has no effect on the core (R76); a write performs its bytes in order. -/
def hostAccess (s : State) : HostAccess → Host.Outcome State Fault Refusal
  | .read a w =>
    if accessInWindow a (widthBytes w) then .next { s with readData := BitVec.ofNat 32 (memRead s a (widthBytes w)) }
    else .fault .outsideWindow
  | .write a w v => writeBytes s a ((List.range (widthBytes w)).map (writeByteOf v))

/-- The host's next access is done first (R78); with none pending the core does nothing (70_reset_and_hazards.md R432; log
entry 12). -/
def hostStep (s : State) : Host.Outcome State Fault Refusal :=
  match s.pending with
  | [] => .next s
  | a :: rest => hostAccess { s with pending := rest } a

/-- The state in which the host is about to write the byte `v` to `CMD`. -/
def aboutToCommand (s : State) (v : Byte) : State :=
  { s with pending := .write 0 .one (v.setWidth 32) :: s.pending }

/-- The registers with a frame of `size` bytes placed as `DECODE <frame>` of 30_encoding.md R121 places it. -/
def placeFrame (bytes : Vector Byte 24) (size : Nat) (r : HostRegs) : HostRegs :=
  { r with inBytes := bytes, inLen := BitVec.ofNat 8 size }

/-- `s` with the instruction of a table word placed where `hostStep` finds it (log entry 1): a command byte as the host's next
write of `CMD`; a frame in `IN_BYTES` with its `IN_LEN`, and the `DECODE` command as the next write (R121). Which words are
command bytes is `decodeTableWord`'s choice (log entry 7). -/
def placeTableWord (s : State) (nbits w : Nat) : State :=
  let stream := streamOf (tableBytes nbits w)
  let first : Byte := BitVec.ofNat 8 (w % 2 ^ nbits)
  if nbits ≤ 8 ∧ first.toNat < 3 then aboutToCommand s first
  else
    aboutToCommand
      { s with
        regs := placeFrame (Vector.ofFn fun i => (tableBytes nbits w).getD i.val 0) (frameSize (infoBits stream)) s.regs } 2

end Sys2Proof.Machine
end

