-- ==== Sys2Proof/WellFormed.lean ====
section
/-! DEFINITION. Well-formed instructions: no operand holds a forbidden code (30_encoding.md R111). The widths of the operands
are carried by their types, so every instruction has an encoding. An instruction that is not well-formed also has one, and it
runs: it is a bad frame (60_exceptions.md R402). Log entry 14. -/

namespace Sys2Proof

/-- R111(a): the pitch code is not one of 124 to 127. -/
def pitchCodeOk (c : BitVec 7) : Bool := c.toNat ≤ 123

/-- R108, R111(b) at 6300 bit/s: the gain index read from a gain word is below the length of its table. The pitch lag of the
pair is `c + 18` (R175), and a lag below 58 splits the word. -/
def gainOk63 (c : BitVec 7) (g : BitVec 12) : Bool :=
  if c.toNat + pitchMin < subframeLen - 2 then g.toNat % 2048 / gainLevels < 85 else g.toNat / gainLevels < 170

/-- R108, R111(b) at 5300 bit/s: the word is never split. -/
def gainOk53 (g : BitVec 12) : Bool := g.toNat / gainLevels < 170

/-- No forbidden code in a FRAME63 (R111, R402). -/
def Frame63.wellFormed (f : Frame63) : Bool :=
  let h := f.header
  pitchCodeOk h.pitchCode0 && pitchCodeOk h.pitchCode1
    && gainOk63 h.pitchCode0 h.gainWord0 && gainOk63 h.pitchCode0 h.gainWord1
    && gainOk63 h.pitchCode1 h.gainWord2 && gainOk63 h.pitchCode1 h.gainWord3

/-- No forbidden code in a FRAME53 (R111, R402). -/
def Frame53.wellFormed (f : Frame53) : Bool :=
  let h := f.header
  pitchCodeOk h.pitchCode0 && pitchCodeOk h.pitchCode1
    && gainOk53 h.gainWord0 && gainOk53 h.gainWord1 && gainOk53 h.gainWord2 && gainOk53 h.gainWord3

/-- No operand holds a forbidden code (R111). Commands have no operands; SID and UNTRANSMITTED frames cannot be invalid
(60_exceptions.md R402). -/
def Instr.wellFormed : Instr → Bool
  | .nop => true
  | .reset => true
  | .decode => true
  | .frame63 f => f.wellFormed
  | .frame53 f => f.wellFormed
  | .sid _ => true
  | .untx _ => true

end Sys2Proof
end

