-- ==== Sys2Proof/Safety.lean ====
section
/-! DEFINITION. What claims about the machine are stated in: the invariant of every state that a run reaches, the conditions on a
state and an instruction under which a decode completes, and a safe step. -/

namespace Sys2Proof.Machine

/-! ### Invariant -/

/-- A lag of R38: not yet written, or in [18, 146]. -/
abbrev LagOk (l : BitVec 8) : Prop := l = 0 ∨ (18 ≤ l.toNat ∧ l.toNat ≤ 146)

/-- What the spec says the persistent state keeps between commands (10_state.md R38, R39, R41, R42, R44, R52, and the ranges of
44_concealment.md R272, R273 and 46_synthesis_cng.md R361, R362 for the two gains). -/
structure Persistent.Inv (c : Persistent) : Prop where
  /-- R41, R52 -/
  erased : c.erasedFrames ≤ 3
  /-- R33, R52: the current type is that of the last decode that produced samples -/
  past : c.pastFrameType = c.curFrameType
  /-- R44, R52 -/
  pfGain : 0 ≤ c.pfGain.toInt ∧ c.pfGain.toInt ≤ 32767
  /-- R42, R272 -/
  interpIndex : c.interpIndex = 0 ∨ (15 ≤ c.interpIndex.toInt ∧ c.interpIndex.toInt ≤ 146)
  /-- R38 -/
  lags : LagOk c.pitchLag[0] ∧ LagOk c.pitchLag[1]
  /-- R39 -/
  gains : ∀ i : Fin 4, c.subframe[i].adCbGain.toNat ≤ 169
  /-- R43, R273, R361 -/
  sidGain : 0 ≤ c.sidGain.toInt ∧ c.sidGain.toInt ≤ 32767
  /-- R361: after a frame that is not ACTIVE the target is a value of the map -/
  sidTarget : c.pastFrameType ≠ .active → c.sidGain.toInt ≤ 11008
  /-- R43, R148, R273, R362 -/
  curGain : -3 ≤ c.curGain.toInt ∧ c.curGain.toInt ≤ 11008
  /-- R148, R273: after an ACTIVE frame it is a shift of `scale_vector` -/
  curShift : c.pastFrameType = .active → c.curGain.toInt ≤ 11

/-- What the registers keep (10_state.md R48, 47_frame_control.md R371, R381). -/
structure HostRegs.Inv (r : HostRegs) : Prop where
  /-- no frame is longer than 24 bytes, and ShortFrame reports fewer -/
  consumed : r.consumed.toNat ≤ 24
  samples : r.samples = 0 ∨ r.samples = 240
  /-- ShortFrame reports no bad frame and no samples (R371, R401) -/
  short : r.err = .shortFrame → r.bad = false ∧ r.samples = 0

/-- The invariant of the machine. -/
structure State.Inv (s : State) : Prop where
  core : s.core.Inv
  regs : s.regs.Inv

/-! ### When a decode completes -/

/-- Every value of the vector has an entry of the cosine table and a next one (42_lsp.md R207): its conversion does not fault. -/
abbrev LspInTable (tab : CosTable) (v : Vector I16 10) : Prop :=
  ∀ j : Fin 10, 0 ≤ asr (rd v j.val) 7 ∧ asr (rd v j.val) 7 + 1 < (tab.len : Int)

/-- The four interpolated vectors of a frame (42_lsp.md R212) stay in the cosine table. -/
abbrev InterpInTable (tab : CosTable) (cur prev : Vector I16 10) : Prop :=
  ∀ s : Fin 4, LspInTable tab (interpolated cur prev s.val)

/-- The comfort-noise fine lags keep the effective lag of the first pair, at most 143 + lag − 1, inside the history (R238, R346);
the default table of 10_state.md R51 does. -/
abbrev NoiseLagsOk (p : Params) : Prop :=
  (cell p.cngAdaptiveCbLag 0).toNat ≤ 2 ∧ (cell p.cngAdaptiveCbLag 1).toNat ≤ 2

/-- `pitch_contrib[2g] ≥ −16` for every gain index (43_excitation.md R237): no harmonic lag falls below 1. -/
abbrev HarmonicLagsOk (rom : Rom) : Prop := ∀ g : Fin 170, -16 ≤ rd rom.pitchContrib (2 * g.val)

/-- The indices of an ACTIVE or SID frame as `S.lsp_index` holds them (41_unpack.md R173). -/
def lspIndices (i2 i1 i0 : BitVec 8) : Vector (BitVec 8) 3 := #v[i0, i1, i2]

/-- The LSP vector a good ACTIVE frame or a SID frame dequantizes (42_lsp.md R200, R374, R377). -/
def goodLsp (s : State) (i2 i1 i0 : BitVec 8) : Vector I16 10 :=
  lspDequant s.params.rom s.core.prevLsp (lspIndices i2 i1 i0) false

/-- The LSP vector of a bad ACTIVE frame (42_lsp.md R200): its indices are forced to 0. -/
def badLsp (s : State) : Vector I16 10 := lspDequant s.params.rom s.core.prevLsp (Vector.replicate 3 0) true

/-- `UNTX` completes. -/
abbrev ReadyUntx (s : State) : Prop :=
  1 ≤ s.regs.inLen.toNat ∧ NoiseLagsOk s.params ∧ InterpInTable s.params.rom.cosTab s.core.sidLsp s.core.prevLsp

/-- `SID` completes. -/
abbrev ReadySid (f : SidFrame) (s : State) : Prop :=
  4 ≤ s.regs.inLen.toNat ∧ NoiseLagsOk s.params
    ∧ InterpInTable s.params.rom.cosTab (goodLsp s f.lspIndex2 f.lspIndex1 f.lspIndex0) s.core.prevLsp

/-- A `FRAME63` without a forbidden code completes. -/
abbrev Ready63 (f : Frame63) (s : State) : Prop :=
  24 ≤ s.regs.inLen.toNat ∧ f.wellFormed = true
    ∧ InterpInTable s.params.rom.cosTab
        (goodLsp s f.header.lspIndex2 f.header.lspIndex1 f.header.lspIndex0) s.core.prevLsp

/-- A `FRAME53` without a forbidden code completes. -/
abbrev Ready53 (f : Frame53) (s : State) : Prop :=
  20 ≤ s.regs.inLen.toNat ∧ f.wellFormed = true ∧ HarmonicLagsOk s.params.rom
    ∧ InterpInTable s.params.rom.cosTab
        (goodLsp s f.header.lspIndex2 f.header.lspIndex1 f.header.lspIndex0) s.core.prevLsp

/-- A bad ACTIVE frame that follows an ACTIVE frame completes: it is concealed (41_unpack.md R186, 47_frame_control.md R376). -/
abbrev ReadyConceal (s : State) : Prop :=
  s.core.pastFrameType = .active ∧ 0 ≤ s.core.interpIndex.toInt ∧ s.core.interpIndex.toInt ≤ 146
    ∧ InterpInTable s.params.rom.cosTab (badLsp s) s.core.prevLsp

/-- A bad ACTIVE frame that follows no ACTIVE frame completes: it is decoded as comfort noise (41_unpack.md R186). -/
abbrev ReadyNoiseInstead (s : State) : Prop :=
  s.core.pastFrameType ≠ .active ∧ NoiseLagsOk s.params
    ∧ InterpInTable s.params.rom.cosTab s.core.sidLsp s.core.prevLsp

/-- `i` is an ACTIVE frame with a forbidden code, and `IN_LEN` covers it. -/
abbrev BadActiveFrame (i : Instr) (s : State) : Prop :=
  i.wellFormed = false ∧ i.size ≤ s.regs.inLen.toNat

/-- Every element of an array of samples is zero. -/
abbrev AllZero {w n : Nat} (v : Vector (BitVec w) n) : Prop := v = Vector.replicate n 0

/-- Comfort noise at gain zero over zero memories is about to be decoded (47_frame_control.md R389's example): `UNTX` completes, the
last frame was not ACTIVE, the amplitude solve is the rules', both gains and the memories are zero, and the IIR memory holds less
than one unit of the output (45_postfilter.md R312, R316). -/
abbrev Silent (s : State) : Prop :=
  ReadyUntx s ∧ s.core.pastFrameType ≠ .active ∧ s.params.cngAmplitude = .rules
    ∧ s.core.sidGain = 0 ∧ s.core.curGain = 0
    ∧ AllZero s.core.prevExcitation ∧ AllZero s.core.synthMem ∧ AllZero s.core.firMem
    ∧ ∀ k : Fin 10, 0 ≤ s.core.iirMem[k].toInt ∧ s.core.iirMem[k].toInt ≤ 65535

/-! ### What a good ACTIVE frame leaves of its operands -/

/-- The three fields of a subframe hold the gain word `w` (30_encoding.md R108): split under its top bit, or whole. -/
abbrev GainHeld (split : Bool) (w : BitVec 12) (sf : Subframe) : Prop :=
  sf.ampIndex.toNat ≤ 23
    ∧ (split = true → sf.diracTrain.toNat = w.toNat / 2048 ∧ sf.adCbGain.toNat * 24 + sf.ampIndex.toNat = w.toNat % 2048)
    ∧ (split = false → sf.diracTrain = 0 ∧ sf.adCbGain.toNat * 24 + sf.ampIndex.toNat = w.toNat)

/-- `S` holds the fields of stream bits 2 to 95 (41_unpack.md R173, R175, R178, R179). At 6300 bit/s a gain word is split where its
pitch lag, the code plus 18, is below 58. -/
abbrev HeaderHeld (rate : Rate) (h : ActiveHeader) (c : Persistent) : Prop :=
  c.lspIndex = lspIndices h.lspIndex2 h.lspIndex1 h.lspIndex0
    ∧ c.pitchLag[0].toNat = h.pitchCode0.toNat + 18 ∧ c.pitchLag[1].toNat = h.pitchCode1.toNat + 18
    ∧ c.subframe[0].adCbLag = 1 ∧ c.subframe[1].adCbLag = h.adCbLag1
    ∧ c.subframe[2].adCbLag = 1 ∧ c.subframe[3].adCbLag = h.adCbLag3
    ∧ GainHeld (rate = .r6300 && h.pitchCode0.toNat + 18 < 58) h.gainWord0 c.subframe[0]
    ∧ GainHeld (rate = .r6300 && h.pitchCode0.toNat + 18 < 58) h.gainWord1 c.subframe[1]
    ∧ GainHeld (rate = .r6300 && h.pitchCode1.toNat + 18 < 58) h.gainWord2 c.subframe[2]
    ∧ GainHeld (rate = .r6300 && h.pitchCode1.toNat + 18 < 58) h.gainWord3 c.subframe[3]
    ∧ c.subframe[0].gridIndex = h.grid0 ∧ c.subframe[1].gridIndex = h.grid1
    ∧ c.subframe[2].gridIndex = h.grid2 ∧ c.subframe[3].gridIndex = h.grid3

/-- `S` holds the pulses of a FRAME63 (30_encoding.md R109, 41_unpack.md R180, R181): each position is a digit of `pos_word` above its
tail. -/
abbrev PulsesHeld63 (f : Frame63) (c : Persistent) : Prop :=
  c.subframe[0].pulsePos.toNat = f.posWord.toNat / 810 * 2 ^ 16 + f.posTail0.toNat
    ∧ c.subframe[1].pulsePos.toNat = f.posWord.toNat % 810 / 90 * 2 ^ 14 + f.posTail1.toNat
    ∧ c.subframe[2].pulsePos.toNat = f.posWord.toNat % 90 / 9 * 2 ^ 16 + f.posTail2.toNat
    ∧ c.subframe[3].pulsePos.toNat = f.posWord.toNat % 9 * 2 ^ 14 + f.posTail3.toNat
    ∧ c.subframe[0].pulseSign.toNat = f.sign0.toNat ∧ c.subframe[1].pulseSign.toNat = f.sign1.toNat
    ∧ c.subframe[2].pulseSign.toNat = f.sign2.toNat ∧ c.subframe[3].pulseSign.toNat = f.sign3.toNat

/-- `S` holds the pulses of a FRAME53 (41_unpack.md R182). -/
abbrev PulsesHeld53 (f : Frame53) (c : Persistent) : Prop :=
  c.subframe[0].pulsePos.toNat = f.pos0.toNat ∧ c.subframe[1].pulsePos.toNat = f.pos1.toNat
    ∧ c.subframe[2].pulsePos.toNat = f.pos2.toNat ∧ c.subframe[3].pulsePos.toNat = f.pos3.toNat
    ∧ c.subframe[0].pulseSign.toNat = f.sign0.toNat ∧ c.subframe[1].pulseSign.toNat = f.sign1.toNat
    ∧ c.subframe[2].pulseSign.toNat = f.sign2.toNat ∧ c.subframe[3].pulseSign.toNat = f.sign3.toNat

/-- The gain smoothing of 46_synthesis_cng.md R362 from `s` to `t`: the target itself after an ACTIVE frame where `CNG_GAIN_RESET` is
1, and seven eighths of the old gain plus one eighth of the target elsewhere. -/
abbrev GainSmoothed (s t : State) : Prop :=
  (s.params.cngGainReset = true → s.core.pastFrameType = .active → t.core.curGain = t.core.sidGain)
    ∧ ((s.params.cngGainReset = false ∨ s.core.pastFrameType ≠ .active) →
        t.core.curGain.toInt = (7 * s.core.curGain.toInt + t.core.sidGain.toInt) / 8)

/-! ### Safe steps -/

/-- A safe step: the machine goes on. -/
def SafeStep (s : State) : Prop := ∃ t, step s = .next t

end Sys2Proof.Machine
end

