-- ==== Sys2Proof/Certificates/Slice0/Obligations.lean ====
section
/-! DEFINITION. The statements for the provers. Each says which rule of spec/ it formalises; a statement that rests on a choice of
the model, or on a sentence the spec marks as derived, says so and names the log entry or the sentence. -/

open Sys2Proof Sys2Proof.Machine

/-! ### Host commands, reset and the step -/

/-- 47_frame_control.md R385: NOP changes nothing. -/
def Obligations.NopChangesNothing : Prop := ∀ s : State, exec .nop s = .next s

/-- 47_frame_control.md R384: every field of `S` takes its reset value except `postfilter`, and the registers take theirs. -/
def Obligations.ResetCommandRestoresResetValues : Prop :=
  ∀ s : State, ∃ t, exec .reset s = .next t
    ∧ t.core.prevLsp = s.params.rom.dcLsp ∧ t.core.sidLsp = s.params.rom.dcLsp
    ∧ t.core.curFrameType = .sid ∧ t.core.pastFrameType = .sid ∧ t.core.curRate = .r6300
    ∧ AllZero t.core.prevExcitation ∧ AllZero t.core.synthMem ∧ AllZero t.core.firMem ∧ AllZero t.core.iirMem
    ∧ AllZero t.core.pitchLag ∧ AllZero t.core.lspIndex
    ∧ (∀ i : Fin 4, t.core.subframe[i] = { adCbLag := 0, adCbGain := 0, ampIndex := 0, diracTrain := 0, gridIndex := 0, pulseSign := 0, pulsePos := 0 })
    ∧ t.core.erasedFrames = 0 ∧ t.core.interpGain = 0 ∧ t.core.interpIndex = 0 ∧ t.core.sidGain = 0 ∧ t.core.curGain = 0
    ∧ t.core.reflectionCoef = 0 ∧ t.core.pfGain = 4096 ∧ t.core.randomSeed = 0 ∧ t.core.cngRandomSeed = 12345
    ∧ t.core.postfilter = s.core.postfilter
    ∧ byteAt t 0x001 = byteAt s 0x001 ∧ byteAt t 0x003 = 0x10
    ∧ ∀ a, a ≠ 0x001 → a ≠ 0x003 → byteAt t a = 0

/-- 70_reset_and_hazards.md R430, R431: the power-on state, for every content of the ROM; the window reads `CONFIG = 0x01`,
`STATUS = 0x10` and zero elsewhere. -/
def Obligations.PowerOnState : Prop :=
  ∀ p : Params, (State.powerOn p).params = p
    ∧ (State.powerOn p).core.prevLsp = p.rom.dcLsp ∧ (State.powerOn p).core.sidLsp = p.rom.dcLsp
    ∧ (State.powerOn p).core.pastFrameType = .sid ∧ (State.powerOn p).core.curFrameType = .sid
    ∧ (State.powerOn p).core.curRate = .r6300
    ∧ AllZero (State.powerOn p).core.prevExcitation ∧ AllZero (State.powerOn p).core.synthMem
    ∧ AllZero (State.powerOn p).core.firMem ∧ AllZero (State.powerOn p).core.iirMem
    ∧ AllZero (State.powerOn p).core.pitchLag ∧ AllZero (State.powerOn p).core.lspIndex
    ∧ (∀ i : Fin 4, (State.powerOn p).core.subframe[i] = { adCbLag := 0, adCbGain := 0, ampIndex := 0, diracTrain := 0, gridIndex := 0, pulseSign := 0, pulsePos := 0 })
    ∧ (State.powerOn p).core.erasedFrames = 0 ∧ (State.powerOn p).core.interpGain = 0 ∧ (State.powerOn p).core.interpIndex = 0
    ∧ (State.powerOn p).core.sidGain = 0 ∧ (State.powerOn p).core.curGain = 0 ∧ (State.powerOn p).core.reflectionCoef = 0
    ∧ (State.powerOn p).core.pfGain = 4096 ∧ (State.powerOn p).core.randomSeed = 0
    ∧ (State.powerOn p).core.cngRandomSeed = 12345 ∧ (State.powerOn p).core.postfilter = true
    ∧ byteAt (State.powerOn p) 0x001 = 0x01 ∧ byteAt (State.powerOn p) 0x003 = 0x10
    ∧ ∀ a, a ≠ 0x001 → a ≠ 0x003 → byteAt (State.powerOn p) a = 0

/-- 20_memory.md R75, R120: a single-byte write of a command byte to `CMD` runs that command, on the state in which the access is
no longer pending (the list of pending accesses is the model's: log entry 1). -/
def Obligations.StepRunsTheCommandWritten : Prop :=
  ∀ (s : State) (v : BitVec 32) (rest : List HostAccess) (i : Instr),
    s.pending = .write 0 .one v :: rest → decode .command [v.setWidth 8] = .ok i →
    step s = exec i { s with pending := rest }

/-- 60_exceptions.md R403: a write of 0x03–0xFF to `CMD` sets `STATUS.ERR` to 2 and changes nothing else the core
holds (the list of pending accesses is the model's: log entry 1). -/
def Obligations.ReservedCommandSetsErrOnly : Prop :=
  ∀ (s : State) (v : BitVec 32) (rest : List HostAccess),
    s.pending = .write 0 .one v :: rest → 3 ≤ (v.setWidth 8).toNat →
    ∃ t, step s = .next t ∧ t.core = s.core ∧ t.regs = { s.regs with err := .badCommand } ∧ t.params = s.params
      ∧ t.pending = rest ∧ t.readData = s.readData
      ∧ (byteAt t 0x003).extractLsb' 0 2 = 2 ∧ (byteAt t 0x003).extractLsb' 2 6 = (byteAt s 0x003).extractLsb' 2 6
      ∧ ∀ a, a ≠ 0x003 → byteAt t a = byteAt s a

/-- The model's placement of a table word (log entries 1 and 7): the next step runs exactly the instruction the decoder reads from
it; a command finds every register as it was, and a frame finds its bytes in `IN_BYTES` and its length in `IN_LEN` (R121). -/
def Obligations.PlacedWordIsWhatStepRuns : Prop :=
  ∀ (s : State) (nbits w : Nat) (i : Instr), decodeTableWord nbits w = some i →
    ∃ r, step (s.withFetchWord nbits w) = exec i { s with regs := r }
      ∧ (i.source = .command → r = s.regs)
      ∧ (i.source = .frame → r.inLen.toNat = i.size ∧ r.inBytes.toList.take i.size = encode i)

/-- 47_frame_control.md R370 with R386–R389: DECODE decodes the frame that stands in `IN_BYTES`. -/
def Obligations.DecodeRunsTheFrameInInBytes : Prop :=
  ∀ (s : State) (i : Instr), decode .frame s.regs.inBytes.toList = .ok i → exec .decode s = exec i s

/-- 60_exceptions.md R401: a frame longer than `IN_LEN` says, or `IN_LEN = 0`, is skipped: the four
status registers report it, and `S`, `OUT` and `STATUS.PAST` are unchanged. -/
def Obligations.ShortFrameReportsAndSkips : Prop :=
  ∀ s : State, (s.regs.inLen = 0 ∨ s.regs.inLen.toNat < frameSize (s.regs.inBytes[0].extractLsb' 0 2)) →
    ∃ t, exec .decode s = .next t ∧ t.core = s.core
      ∧ t.regs = { s.regs with err := .shortFrame, bad := false, consumed := s.regs.inLen, samples := 0 }
      ∧ byteAt t 0x003 = statusByte .shortFrame false s.core.pastFrameType
      ∧ ∀ a, 0x100 ≤ a → byteAt t a = byteAt s a

/-- 60_exceptions.md R401 for each frame instruction (log entry 15): the length check comes first (R408). -/
def Obligations.ShortFrameComesFirst : Prop :=
  ∀ (i : Instr) (s : State), i.source = .frame → s.regs.inLen.toNat < i.size →
    exec i s = .next { s with regs := { s.regs with err := .shortFrame, bad := false, consumed := s.regs.inLen, samples := 0 } }

/-! ### Decodes that complete -/

/-- 47_frame_control.md R389, R377, R378, R381 (log entry 15): an UNTRANSMITTED frame whose interpolated LSP values have cosine entries produces
240 samples and reports them; after an ACTIVE frame the gain target comes from the estimate (R360, R361), else it stays, and `cur_gain`
is smoothed (R362). -/
def Obligations.UntxCompletes : Prop :=
  ∀ (b : BitVec 6) (s : State), ReadyUntx s →
    ∃ t, exec (.untx b) s = .next t
      ∧ t.core.pastFrameType = .untransmitted ∧ t.core.curFrameType = .untransmitted
      ∧ t.core.prevLsp = s.core.sidLsp ∧ t.core.sidLsp = s.core.sidLsp
      ∧ (s.core.pastFrameType ≠ .active → t.core.sidGain = s.core.sidGain)
      ∧ (s.core.pastFrameType = .active → ∃ g, g = estimateSidGain s.params s.core.sidGain.toInt s.core.curGain.toInt
          ∧ 0 ≤ g ∧ g ≤ 63 ∧ t.core.sidGain.toInt = sidGainToLspIndex g)
      ∧ GainSmoothed s t
      ∧ t.regs.samples = 240 ∧ t.regs.consumed = 1 ∧ byteAt t 0x003 = 0x20

/-- 47_frame_control.md R388, R377, R378, R381: a SID frame takes its gain from its 6-bit field (R361) and its reference LSP from
its indices (R200), smooths `cur_gain` (R362), and produces 240 samples. -/
def Obligations.SidCompletes : Prop :=
  ∀ (f : SidFrame) (s : State), ReadySid f s →
    ∃ t, exec (.sid f) s = .next t
      ∧ t.core.pastFrameType = .sid ∧ t.core.curFrameType = .sid
      ∧ t.core.sidLsp = goodLsp s f.lspIndex2 f.lspIndex1 f.lspIndex0 ∧ t.core.prevLsp = t.core.sidLsp
      ∧ t.core.sidGain.toInt = sidGainToLspIndex f.ampIndex.toNat
      ∧ GainSmoothed s t
      ∧ t.core.lspIndex = lspIndices f.lspIndex2 f.lspIndex1 f.lspIndex0 ∧ (subframeAt t.core 0).ampIndex = f.ampIndex
      ∧ t.regs.samples = 240 ∧ t.regs.consumed = 4 ∧ byteAt t 0x003 = 0x10

/-- 47_frame_control.md R386, R373–R376, R381: a FRAME63 without a forbidden code is decoded as a good ACTIVE frame at 6300 bit/s,
and `S` holds its coded fields (41_unpack.md R173–R181). -/
def Obligations.Frame63Completes : Prop :=
  ∀ (f : Frame63) (s : State), Ready63 f s →
    ∃ t, exec (.frame63 f) s = .next t
      ∧ t.core.pastFrameType = .active ∧ t.core.curFrameType = .active ∧ t.core.curRate = .r6300
      ∧ t.core.prevLsp = goodLsp s f.header.lspIndex2 f.header.lspIndex1 f.header.lspIndex0
      ∧ t.core.erasedFrames = 0 ∧ t.core.cngRandomSeed = 12345
      ∧ t.core.interpGain.toInt = rd s.params.rom.fixedCbGain
          (((subframeAt t.core 2).ampIndex.toNat + (subframeAt t.core 3).ampIndex.toNat) / 2)
      ∧ HeaderHeld .r6300 f.header t.core ∧ PulsesHeld63 f t.core
      ∧ t.regs.samples = 240 ∧ t.regs.consumed = 24 ∧ byteAt t 0x003 = 0x00

/-- 47_frame_control.md R387, R373–R376, R381: a FRAME53 without a forbidden code, under the ROM condition that R237 names, is
decoded as a good ACTIVE frame at 5300 bit/s, and `S` holds its coded fields (41_unpack.md R173–R182). -/
def Obligations.Frame53Completes : Prop :=
  ∀ (f : Frame53) (s : State), Ready53 f s →
    ∃ t, exec (.frame53 f) s = .next t
      ∧ t.core.pastFrameType = .active ∧ t.core.curFrameType = .active ∧ t.core.curRate = .r5300
      ∧ t.core.prevLsp = goodLsp s f.header.lspIndex2 f.header.lspIndex1 f.header.lspIndex0
      ∧ t.core.erasedFrames = 0 ∧ t.core.cngRandomSeed = 12345
      ∧ t.core.interpGain.toInt = rd s.params.rom.fixedCbGain
          (((subframeAt t.core 2).ampIndex.toNat + (subframeAt t.core 3).ampIndex.toNat) / 2)
      ∧ HeaderHeld .r5300 f.header t.core ∧ PulsesHeld53 f t.core
      ∧ t.regs.samples = 240 ∧ t.regs.consumed = 20 ∧ byteAt t 0x003 = 0x00

/-- 47_frame_control.md R370: DECODE completes with each frame type in `IN_BYTES` under that frame's conditions, and reports
240 samples and the frame's size. -/
def Obligations.DecodeCompletes : Prop :=
  ∀ s : State,
    (∀ f, decode .frame s.regs.inBytes.toList = .ok (.frame63 f) → Ready63 f s →
      ∃ t, exec .decode s = .next t ∧ t.regs.err = .ok ∧ t.regs.bad = false ∧ t.regs.samples = 240 ∧ t.regs.consumed = 24
        ∧ t.core.pastFrameType = .active)
    ∧ (∀ f, decode .frame s.regs.inBytes.toList = .ok (.frame53 f) → Ready53 f s →
      ∃ t, exec .decode s = .next t ∧ t.regs.err = .ok ∧ t.regs.bad = false ∧ t.regs.samples = 240 ∧ t.regs.consumed = 20
        ∧ t.core.pastFrameType = .active)
    ∧ (∀ f, decode .frame s.regs.inBytes.toList = .ok (.sid f) → ReadySid f s →
      ∃ t, exec .decode s = .next t ∧ t.regs.err = .ok ∧ t.regs.bad = false ∧ t.regs.samples = 240 ∧ t.regs.consumed = 4
        ∧ t.core.pastFrameType = .sid)
    ∧ (∀ b, decode .frame s.regs.inBytes.toList = .ok (.untx b) → ReadyUntx s →
      ∃ t, exec .decode s = .next t ∧ t.regs.err = .ok ∧ t.regs.bad = false ∧ t.regs.samples = 240 ∧ t.regs.consumed = 1
        ∧ t.core.pastFrameType = .untransmitted)

/-- 60_exceptions.md R402, 47_frame_control.md R373, R375: a forbidden code after an ACTIVE frame is concealed: `STATUS` is 0x04, the erasure
count goes up to at most 3, the gain memory decays by R275, and the LSPs come from indices forced to 0 (R200). -/
def Obligations.BadFrameAfterActiveIsConcealed : Prop :=
  ∀ (i : Instr) (s : State), BadActiveFrame i s → ReadyConceal s →
    ∃ t, exec i s = .next t
      ∧ t.core.pastFrameType = .active ∧ t.core.erasedFrames = min (s.core.erasedFrames + 1) 3
      ∧ t.core.prevLsp = badLsp s ∧ t.core.cngRandomSeed = 12345
      ∧ t.core.interpGain.toInt = (3 * s.core.interpGain.toInt + 2) / 4
      ∧ t.core.interpIndex = s.core.interpIndex ∧ t.core.sidGain = s.core.sidGain ∧ t.core.curGain = s.core.curGain
      ∧ t.regs.samples = 240 ∧ t.regs.consumed.toNat = i.size ∧ byteAt t 0x003 = 0x04

/-- 41_unpack.md R186, 47_frame_control.md R377: a forbidden code after a frame that is not ACTIVE is decoded as an UNTRANSMITTED
frame: `STATUS` is 0x24, the gain target and the erasure count stay. -/
def Obligations.BadFrameElsewhereIsNoise : Prop :=
  ∀ (i : Instr) (s : State), BadActiveFrame i s → ReadyNoiseInstead s →
    ∃ t, exec i s = .next t
      ∧ t.core.pastFrameType = .untransmitted ∧ t.core.erasedFrames = s.core.erasedFrames
      ∧ t.core.prevLsp = s.core.sidLsp ∧ t.core.sidGain = s.core.sidGain
      ∧ t.core.curGain.toInt = (7 * s.core.curGain.toInt + s.core.sidGain.toInt) / 8
      ∧ t.regs.samples = 240 ∧ t.regs.consumed.toNat = i.size ∧ byteAt t 0x003 = 0x24

/-- 44_concealment.md R276 (its last sentence is derived by the spec): the third bad frame in a row mutes. Whatever the earlier
state, the output and the filter memories are zero; with the post-filter on, its IIR memory holds the rounding constant of R312. -/
def Obligations.ThirdBadFrameMutes : Prop :=
  ∀ (i : Instr) (s : State), BadActiveFrame i s → ReadyConceal s → 2 ≤ s.core.erasedFrames →
    ∃ t, exec i s = .next t ∧ t.core.erasedFrames = 3
      ∧ AllZero t.regs.out ∧ AllZero t.core.prevExcitation ∧ AllZero t.core.synthMem ∧ AllZero t.core.firMem
      ∧ (s.core.postfilter = false → AllZero t.core.iirMem)
      ∧ (s.core.postfilter = true → t.core.iirMem = Vector.replicate 10 32768)
      ∧ t.core.randomSeed = s.core.randomSeed

/-- 47_frame_control.md R389's example, for every such state: comfort noise at gain zero over zero memories is exactly silent, and
leaves a state from which the next one is silent again (95_test_vectors.md PR4). -/
def Obligations.SilentNoiseStaysSilent : Prop :=
  ∀ (b : BitVec 6) (s : State), Silent s → ∃ t, exec (.untx b) s = .next t ∧ AllZero t.regs.out ∧ Silent t

/-- 46_synthesis_cng.md R331, R333, 45_postfilter.md R313: after a decode, without the post-filter the last ten output samples are
the saved synthesis memory doubled with saturation; with it, the FIR memory holds the same samples as the synthesis memory. -/
def Obligations.OutputStageFollowsSynthesis : Prop :=
  ∀ (i : Instr) (s t : State), i.source = .frame → i.size ≤ s.regs.inLen.toNat → exec i s = .next t →
    (s.core.postfilter = false → ∀ k : Fin 10, rd t.regs.out (230 + k.val) = clip16 (2 * rd t.core.synthMem k.val))
      ∧ (s.core.postfilter = true → t.core.firMem = t.core.synthMem)

/-! ### What a decode leaves unchanged -/

/-- 47_frame_control.md R382, 20_memory.md R76, R81: no frame and no DECODE writes `CONFIG`, `IN_LEN`, `IN_BYTES`, the parameters or the host's
accesses; of the window only `STATUS`, `CONSUMED`, `SAMPLES` and `OUT` can change. -/
def Obligations.DecodeWindowFrame : Prop :=
  ∀ (i : Instr) (s t : State), (i = .decode ∨ i.source = .frame) → exec i s = .next t →
    t.core.postfilter = s.core.postfilter ∧ t.regs.inLen = s.regs.inLen ∧ t.regs.inBytes = s.regs.inBytes
      ∧ t.params = s.params ∧ t.pending = s.pending ∧ t.readData = s.readData
      ∧ ∀ a, (a < 0x100 ∨ 0x2E0 ≤ a) → a ≠ 0x003 → a ≠ 0x004 → a ≠ 0x006 → a ≠ 0x007 → byteAt t a = byteAt s a

/-- 47_frame_control.md R378, R382, 41_unpack.md R172, R174: what a SID or UNTRANSMITTED frame leaves unchanged in `S`. -/
def Obligations.NoiseFrameLeavesUnchanged : Prop :=
  ∀ (i : Instr) (s t : State), ((∃ f, i = .sid f) ∨ (∃ b, i = .untx b)) → exec i s = .next t →
    t.core.curRate = s.core.curRate ∧ t.core.erasedFrames = s.core.erasedFrames
      ∧ t.core.interpGain = s.core.interpGain ∧ t.core.interpIndex = s.core.interpIndex
      ∧ t.core.randomSeed = s.core.randomSeed ∧ t.core.postfilter = s.core.postfilter
      ∧ (∀ j : Fin 4, t.core.subframe[j].diracTrain = s.core.subframe[j].diracTrain
          ∧ t.core.subframe[j].gridIndex = s.core.subframe[j].gridIndex
          ∧ t.core.subframe[j].pulseSign = s.core.subframe[j].pulseSign
          ∧ t.core.subframe[j].pulsePos = s.core.subframe[j].pulsePos
          ∧ (j ≠ 0 → t.core.subframe[j].ampIndex = s.core.subframe[j].ampIndex))
      ∧ ((∃ b, i = .untx b) → t.core.sidLsp = s.core.sidLsp ∧ t.core.lspIndex = s.core.lspIndex
          ∧ t.core.subframe[0].ampIndex = s.core.subframe[0].ampIndex)
      ∧ (s.core.postfilter = false → t.core.firMem = s.core.firMem ∧ t.core.iirMem = s.core.iirMem
          ∧ t.core.reflectionCoef = s.core.reflectionCoef ∧ t.core.pfGain = s.core.pfGain)

/-- 47_frame_control.md R374–R376, R382: what a FRAME63 or FRAME53 leaves unchanged in `S`, and what only some of its paths
write. With the post-filter off only a mute writes the formant memories. -/
def Obligations.ActiveFrameLeavesUnchanged : Prop :=
  ∀ (i : Instr) (s t : State), ((∃ f, i = .frame63 f) ∨ (∃ f, i = .frame53 f)) → exec i s = .next t →
    t.core.sidLsp = s.core.sidLsp ∧ t.core.postfilter = s.core.postfilter
      ∧ (i.wellFormed = true → t.core.randomSeed = s.core.randomSeed)
      ∧ (i.wellFormed = false → t.core.sidGain = s.core.sidGain ∧ t.core.interpIndex = s.core.interpIndex)
      ∧ (i.wellFormed = false → s.core.pastFrameType = .active → t.core.curGain = s.core.curGain)
      ∧ (i.wellFormed = false → s.core.pastFrameType ≠ .active →
          t.core.erasedFrames = s.core.erasedFrames ∧ t.core.interpGain = s.core.interpGain
            ∧ t.core.randomSeed = s.core.randomSeed)
      ∧ (s.core.postfilter = false →
          (i.wellFormed = true ∨ s.core.pastFrameType ≠ .active ∨ s.core.erasedFrames < 2) →
          t.core.firMem = s.core.firMem ∧ t.core.iirMem = s.core.iirMem)
      ∧ (s.core.postfilter = false → t.core.reflectionCoef = s.core.reflectionCoef ∧ t.core.pfGain = s.core.pfGain)

/-- 30_encoding.md R112: the reserved bit of F63 and bits 2–7 of FUNT never affect any result. -/
def Obligations.ReservedBitsNeverMatter : Prop :=
  (∀ (f : Frame63) (b : BitVec 1) (s : State), exec (.frame63 { f with reserved := b }) s = exec (.frame63 f) s)
    ∧ (∀ (b c : BitVec 6) (s : State), exec (.untx b) s = exec (.untx c) s)

/-- 47_frame_control.md R383, 30_encoding.md R112: DECODE depends on `S`, the parameters, `IN_LEN` and the first `frame_size` bytes of `IN_BYTES`
only. Two states that agree on them decode alike: both stop with the same fault, or reach the same `S` and the same reports, and the
same `OUT` where it is written. -/
def Obligations.DecodeDependsOnItsInputsOnly : Prop :=
  ∀ s s' : State, s.core = s'.core → s.params = s'.params → s.regs.inLen = s'.regs.inLen →
    s.regs.inBytes.toList.take (frameSize (s.regs.inBytes[0].extractLsb' 0 2))
      = s'.regs.inBytes.toList.take (frameSize (s.regs.inBytes[0].extractLsb' 0 2)) →
    (∀ e, exec .decode s = .fault e → exec .decode s' = .fault e)
      ∧ (∀ t, exec .decode s = .next t → ∃ t', exec .decode s' = .next t' ∧ t'.core = t.core
          ∧ t'.regs.err = t.regs.err ∧ t'.regs.bad = t.regs.bad ∧ t'.regs.consumed = t.regs.consumed
          ∧ t'.regs.samples = t.regs.samples ∧ (t.regs.samples = 240 → t'.regs.out = t.regs.out))

/-! ### The unpacker -/

/-- 60_exceptions.md R402: UNPACK fails exactly on a forbidden code, and never on a SID or UNTRANSMITTED frame. -/
def Obligations.UnpackFailsExactlyOnForbiddenCodes : Prop :=
  (∀ (f : Frame63) (c : Persistent), badFrame (unpack63 f c) = !f.wellFormed)
    ∧ (∀ (f : Frame53) (c : Persistent), badFrame (unpack53 f c) = !f.wellFormed)
    ∧ (∀ (f : SidFrame) (c : Persistent), badFrame (unpackSid f c) = false)
    ∧ (∀ c : Persistent, badFrame (unpackUntx c) = false)

/-- 30_encoding.md R108: the gain word of a subframe, in both layouts, with the table's length. The two numbers that follow the
Dirac bit are fixed by their sum, because the amplitude index is below 24. -/
def Obligations.GainWordDecodes : Prop :=
  ∀ (rate : Rate) (lag : Nat) (t : BitVec 12),
    let g := gainOperand rate lag t
    (rate = .r6300 ∧ lag < 58 →
        g.tableLen = 85 ∧ g.diracTrain.toNat = t.toNat / 2048 ∧ g.gain * 24 + g.amp = t.toNat % 2048)
      ∧ (¬(rate = .r6300 ∧ lag < 58) → g.tableLen = 170 ∧ g.diracTrain = 0 ∧ g.gain * 24 + g.amp = t.toNat)
      ∧ g.amp ≤ 23

/-! ### Line spectral pairs -/

/-- 42_lsp.md R204, which the spec derives from the test of R203: the dequantizer gives the previous vector, or one whose
neighbours are at least `min_dist − 4` apart. -/
def Obligations.DequantIsStableOrPrevious : Prop :=
  ∀ (rom : Rom) (prev : Vector I16 10) (idx : Vector (BitVec 8) 3) (bad : Bool),
    lspDequant rom prev idx bad = prev
      ∨ ∀ j, j < 9 → (if bad then 0x200 else 0x100) - 4
          ≤ rd (lspDequant rom prev idx bad) (j + 1) - rd (lspDequant rom prev idx bad) j

/-- 42_lsp.md R207, 60_exceptions.md R405: the negative cosine faults exactly when the table has no entry at the index or none after it. -/
def Obligations.NegCosFaultsExactlyOutsideTable : Prop :=
  ∀ (tab : CosTable) (v : Int),
    (negCos tab v = .error .romIndexFault ↔ (asr v 7 < 0 ∨ (tab.len : Int) ≤ asr v 7 + 1))
      ∧ (∀ n, negCos tab v = .ok n → -32768 ≤ n ∧ n ≤ 32767)

/-- 42_lsp.md R209's last sentence, which the spec derives: both polynomials end with 2^25 as their first coefficient. -/
def Obligations.PolynomialsEndInQ25 : Prop :=
  ∀ x0 x1 x2 x3 x4 : Int, rd (poly x0 x1 x2 x3 x4) 0 = 2 ^ 25

/-- 42_lsp.md R212: every interpolated value lies between the two it is interpolated from (rounding included), and the last set is
the current vector. -/
def Obligations.InterpolationStaysBetween : Prop :=
  ∀ (cur prev : Vector I16 10) (s j : Nat), j < 10 →
    min (rd cur j) (rd prev j) ≤ rd (interpolated cur prev s) j
      ∧ rd (interpolated cur prev s) j ≤ max (rd cur j) (rd prev j)
      ∧ interpolated cur prev 3 = cur

/-- 60_exceptions.md R405 for UNTX: with the comfort-noise lags of the default table and a frame that is not short, the decode stops
with `RomIndexFault` exactly when some interpolated LSP value has no cosine entry, and otherwise goes on. -/
def Obligations.UntxStopsExactlyOutsideCosTable : Prop :=
  ∀ (b : BitVec 6) (s : State), 1 ≤ s.regs.inLen.toNat → NoiseLagsOk s.params →
    (¬ InterpInTable s.params.rom.cosTab s.core.sidLsp s.core.prevLsp ↔ exec (.untx b) s = .fault .romIndexFault)

/-! ### Excitation -/

/-- 43_excitation.md R231 with 10_state.md R51 (the spec derives it from the combinatorial number system): an index below `max_pos` selects
exactly `pulses[s]` of the 30 slots, in increasing order, and different indices select different slots. -/
def Obligations.PulsePositionsSelectDistinctSlots : Prop :=
  ∀ s t : Nat, s < 4 → t < maxPos s →
    (slots63 s t).length = pulses s ∧ (slots63 s t).Pairwise (· < ·) ∧ (∀ x ∈ slots63 s t, x < 30)
      ∧ ∀ t', t' < maxPos s → slots63 s t' = slots63 s t → t' = t

/-- 43_excitation.md R231, R233, R234: the vector at 6300 bit/s. Each chosen slot holds the gain, negative for a set sign bit (the first
pulse takes the top bit), every other sample is zero, and a set Dirac bit overlays that vector with its shifted copies. -/
def Obligations.MultipulseVectorAt6300 : Prop :=
  ∀ (rom : Rom) (s : Nat) (sf : Subframe) (lag : Nat), s < 4 → sf.pulsePos.toNat < maxPos s →
    ∀ h : sf.ampIndex.toNat < 24, ∃ v : SubframeVec,
      (∀ (p : Nat) (hp : p < (slots63 s sf.pulsePos.toNat).length),
          rd v (sf.gridIndex.toNat + 2 * (slots63 s sf.pulsePos.toNat)[p])
            = wrap16 (if sf.pulseSign.getLsbD (pulses s - 1 - p) then -rom.fixedCbGain[sf.ampIndex.toNat].toInt
                else rom.fixedCbGain[sf.ampIndex.toNat].toInt))
      ∧ (∀ x, (∀ slot ∈ slots63 s sf.pulsePos.toNat, x ≠ sf.gridIndex.toNat + 2 * slot) → rd v x = 0)
      ∧ (sf.diracTrain = 0 → fcb63 rom s sf lag = .ok v)
      ∧ (sf.diracTrain = 1 → fcb63 rom s sf lag = .ok (dirac v lag))

/-- 43_excitation.md R232: a position index at or above `max_pos` gives the zero vector, with or without a Dirac train. -/
def Obligations.OutOfRangePositionIsSilent : Prop :=
  ∀ (rom : Rom) (s : Nat) (sf : Subframe) (lag : Nat), maxPos s ≤ sf.pulsePos.toNat →
    ∃ fcb, fcb63 rom s sf lag = .ok fcb ∧ AllZero fcb

/-- 43_excitation.md R234: the Dirac train adds, modulo 2^16, the copies of the original vector shifted by every multiple of the lag. -/
def Obligations.DiracAddsShiftedCopies : Prop :=
  ∀ (fcb : SubframeVec) (lag x : Nat), 18 ≤ lag → lag ≤ 57 → x < 60 →
    rd (dirac fcb lag) x
      = wrap16 (rd fcb x + (if lag ≤ x then rd fcb (x - lag) else 0) + (if 2 * lag ≤ x then rd fcb (x - 2 * lag) else 0)
          + (if 3 * lag ≤ x then rd fcb (x - 3 * lag) else 0))

/-- 43_excitation.md R235, R236: the regular pulses at 5300 bit/s: each offset below 60 holds the gain, positive for a set sign bit, and every
other sample is zero. -/
def Obligations.RegularPulsesAt5300 : Prop :=
  ∀ (sf : Subframe) (g : I16),
    (∀ k, k < 4 → pulseOff53 sf k < 60 →
      rd (regularPulses sf g.toInt) (pulseOff53 sf k) = wrap16 (if sf.pulseSign.getLsbD k then g.toInt else -g.toInt))
    ∧ (∀ x, (∀ k, k < 4 → x ≠ pulseOff53 sf k) → rd (regularPulses sf g.toInt) x = 0)

/-- 43_excitation.md R237: the harmonic enhancement is in place: below the lag nothing changes, and from the lag on each sample adds
the scaled sample one lag earlier of the enhanced vector. -/
def Obligations.HarmonicEnhancementIsInPlace : Prop :=
  ∀ (fcb : SubframeVec) (lag : Nat) (beta : Int), 1 ≤ lag →
    (∀ x, x < lag → rd (enhance fcb lag beta) x = rd fcb x)
    ∧ (∀ x, lag ≤ x → x < 60 →
        rd (enhance fcb lag beta) x = wrap16 (rd fcb x + beta * rd (enhance fcb lag beta) (x - lag) / 32768))

/-! ### Classifier and concealment -/

/-- 44_concealment.md R270: the search gives (0, 0) when no correlation is positive, and otherwise the first lag of the range whose correlation is
the largest, with that correlation. -/
def Obligations.AutocorrelationPeak : Prop :=
  ∀ (y : ExcBuf) (b lag n : Nat) (dir : SearchDir),
    let r := autocorrMax y b lag n dir
    let lo := searchCentre lag - 3
    let hi := searchHi b lag n dir
    (r = (0, 0) ∧ ∀ i, lo ≤ i → i ≤ hi → correlation y b (dirMul dir i) n ≤ 0)
    ∨ (0 < r.2 ∧ lo ≤ r.1 ∧ r.1 ≤ hi ∧ r.2 = correlation y b (dirMul dir r.1) n
        ∧ (∀ i, lo ≤ i → i ≤ hi → correlation y b (dirMul dir i) n ≤ r.2)
        ∧ ∀ i, lo ≤ i → i < r.1 → correlation y b (dirMul dir i) n < r.2)

/-- 44_concealment.md R277: the voiced residual repeats with the lag, and its first period is the last one of the history at three quarters. -/
def Obligations.VoicedResidualIsPeriodic : Prop :=
  ∀ (hist : Vector I16 146) (lag : Nat), 1 ≤ lag → lag ≤ 146 →
    (∀ i, i < lag → rd (voicedResidual hist lag) i = rd hist (146 - lag + i) * 3 / 4)
    ∧ (∀ i, lag ≤ i → i < 240 → rd (voicedResidual hist lag) i = rd (voicedResidual hist lag) (i - lag))

/-- 44_concealment.md R278 (the bound is derived by the spec): with a gain memory in [0, 32767] no sample of the concealment noise exceeds the gain. -/
def Obligations.UnvoicedResidualIsBounded : Prop :=
  ∀ (g : Int) (seed : I16) (i : Nat), 0 ≤ g → g ≤ 32767 → i < 240 →
    -g ≤ rd (unvoicedResidual g seed).2 i ∧ rd (unvoicedResidual g seed).2 i ≤ g

/-! ### Post-filters -/

/-- 45_postfilter.md R290, R292, R293, R300 (the ranges are derived by the spec): the pitch post-filter of a subframe looks at a
window of 60 samples inside the excitation buffer, and its gains are in range. -/
def Obligations.PitchPostfilterStaysInBuffer : Prop :=
  ∀ (p : Params) (c : Persistent) (y : ExcBuf) (j : Nat), j < 4 → 18 ≤ lagOf c j → lagOf c j ≤ 146 →
    let k := ppfCoeff p c y j
    0 ≤ 146 + 60 * (j : Int) + k.index ∧ 146 + 60 * (j : Int) + k.index + 60 ≤ 386
      ∧ -146 ≤ k.index ∧ k.index ≤ 146
      ∧ 0 ≤ k.scGain ∧ k.scGain ≤ 0x7FFF ∧ -32768 ≤ k.optGain ∧ k.optGain ≤ 32767
      ∧ (j = 3 → k.index ≤ 0)

/-- 45_postfilter.md R318, R319: the gain of a subframe is in [0, 0x7FFE], and 60 smoothing steps keep the post-filter gain between
its old value and that gain. -/
def Obligations.FormantGainMovesTowardTarget : Prop :=
  ∀ (d : SubframeVec) (energy : Int) (pf : I32) (out : Vector I16 240) (j : Nat),
    0 ≤ gainScale d energy ∧ gainScale d energy ≤ 0x7FFE
      ∧ (∀ gain : Int, 0 ≤ gain → gain ≤ 32767 →
          min pf.toInt gain ≤ (scaleSubframe d gain pf out j).1.toInt
            ∧ (scaleSubframe d gain pf out j).1.toInt ≤ max pf.toInt gain)

/-! ### Primitives -/

/-- 40_primitives.md R146 (the characterisation is derived by the spec): the largest even number up to 0x7FFE whose doubled square fits. -/
def Obligations.SquareRootIsLargestEven : Prop :=
  ∀ v : Int, 0 ≤ v → v ≤ 2147483647 →
    squareRoot v % 2 = 0 ∧ 0 ≤ squareRoot v ∧ squareRoot v ≤ 0x7FFE ∧ 2 * (squareRoot v * squareRoot v) ≤ v
      ∧ ∀ r : Int, 0 ≤ r → r ≤ 0x7FFE → r % 2 = 0 → 2 * (r * r) ≤ v → r ≤ squareRoot v

/-- 40_primitives.md R148 (the range is derived by the spec): the normalized vector fits 13 signed bits, is the exact shift of its
source, and the result is between −3 and 11. -/
def Obligations.ScaleVectorNormalizes : Prop :=
  ∀ (n : Nat) (src : Vector I16 n) (i : Nat), i < n →
    -4096 ≤ rd (scaleVector src) i ∧ rd (scaleVector src) i ≤ 4095
      ∧ rd (scaleVector src) i = rd src i * 2 ^ (scaleBits src).toNat / 8
      ∧ -3 ≤ scaleShift src ∧ scaleShift src ≤ 11

/-! ### Comfort noise -/

/-- 46_synthesis_cng.md R349: each subframe draws `pulses[i]` distinct even positions below 60 plus its offset. -/
def Obligations.NoisePositionsAreDistinct : Prop :=
  ∀ (seed : BitVec 16) (i off : Nat),
    (subframePositions seed i off).2.length = pulses i ∧ (subframePositions seed i off).2.Nodup
      ∧ ∀ x ∈ (subframePositions seed i off).2, ∃ r, r < 30 ∧ x = 2 * r + off

/-- 46_synthesis_cng.md R346, R347: the lags and gains a comfort-noise frame leaves, in their ranges, and the fine lags of the table. -/
def Obligations.NoiseParameterRanges : Prop :=
  ∀ (i : Instr) (s t : State), ((∃ f, i = .sid f) ∨ (∃ b, i = .untx b)) → i.size ≤ s.regs.inLen.toNat → exec i s = .next t →
    123 ≤ t.core.pitchLag[0].toNat ∧ t.core.pitchLag[0].toNat ≤ 143
      ∧ 123 ≤ t.core.pitchLag[1].toNat ∧ t.core.pitchLag[1].toNat ≤ 141
      ∧ ∀ j : Fin 4, 1 ≤ t.core.subframe[j].adCbGain.toNat ∧ t.core.subframe[j].adCbGain.toNat ≤ 50
          ∧ t.core.subframe[j].adCbLag = s.params.cngAdaptiveCbLag[j]

/-- 46_synthesis_cng.md R361: the three segments of the gain map, which is increasing on [0, 63] and ends at 11008. -/
def Obligations.SidGainMapIsMonotone : Prop :=
  (∀ g : Int, 0 ≤ g → g < 16 → sidGainToLspIndex g = 64 * g)
    ∧ (∀ g : Int, 16 ≤ g → g < 32 → sidGainToLspIndex g = 128 * (g - 8))
    ∧ (∀ g : Int, 32 ≤ g → g ≤ 63 → sidGainToLspIndex g = 256 * (g - 20))
    ∧ (∀ g h : Int, 0 ≤ g → g < h → h ≤ 63 → sidGainToLspIndex g < sidGainToLspIndex h)

/-! ### Host accesses -/

/-- 20_memory.md R75, R76: a host read inside the window changes nothing of the core; its value is the little-endian number of the
bytes read. Where the value is kept is the model's: log entry 13. -/
def Obligations.HostReadHasNoSideEffect : Prop :=
  ∀ (s : State) (a : Nat) (w : AccessWidth) (rest : List HostAccess),
    s.pending = .read a w :: rest → a + widthBytes w ≤ 0x300 →
    ∃ t, step s = .next t ∧ t.core = s.core ∧ t.regs = s.regs ∧ t.params = s.params ∧ t.pending = rest
      ∧ (∀ k, k < widthBytes w → t.readData.extractLsb' (8 * k) 8 = byteAt s (a + k))
      ∧ (∀ x, byteAt t x = byteAt s x)

/-- 20_memory.md R71, R75: what a host write of one byte other than `CMD` does to every byte of the window: `CONFIG` keeps bit 0, `IN_LEN` and
`IN_BYTES` take the byte, read-only and reserved bytes ignore it, and no other byte changes. -/
def Obligations.HostWriteChangesOneByte : Prop :=
  ∀ (s : State) (a : Nat) (v : BitVec 32) (rest : List HostAccess),
    s.pending = .write a .one v :: rest → a ≠ 0 → a < 0x300 →
    ∃ t, step s = .next t ∧ t.pending = rest ∧ t.params = s.params ∧ t.readData = s.readData
      ∧ t.core = { s.core with postfilter := t.core.postfilter }
      ∧ (a = 0x001 → byteAt t a = v.setWidth 8 &&& 1)
      ∧ (a = 0x002 ∨ (0x020 ≤ a ∧ a ≤ 0x037) → byteAt t a = v.setWidth 8)
      ∧ (a ≠ 0x001 → a ≠ 0x002 → ¬(0x020 ≤ a ∧ a ≤ 0x037) → byteAt t a = byteAt s a)
      ∧ ∀ x, x ≠ a → byteAt t x = byteAt s x

/-- 20_memory.md R74: a write of 2 or 4 bytes behaves as its single-byte writes in increasing order, whatever commands they run (the
list of pending accesses is the model's: log entry 1). -/
def Obligations.WideWriteIsItsByteWrites : Prop :=
  ∀ (s : State) (a : Nat) (v : BitVec 32) (rest : List HostAccess),
    step { s with pending := .write a .two v :: rest }
        = Host.Core.run Sys2Proof.core 2
            { s with pending := .write a .one v :: .write (a + 1) .one (v >>> 8) :: rest }
      ∧ step { s with pending := .write a .four v :: rest }
        = Host.Core.run Sys2Proof.core 4
            { s with
              pending := .write a .one v :: .write (a + 1) .one (v >>> 8) :: .write (a + 2) .one (v >>> 16)
                :: .write (a + 3) .one (v >>> 24) :: rest }

/-! ### Encoding -/

/-- 30_encoding.md R100–R107, R120: decoding an encoded instruction gives it back, whatever its operands; no bit of an encoding is
dropped. -/
def Obligations.DecodeOfEncodeIsIdentity : Prop := ∀ i : Instr, decode i.source (encode i) = .ok i

/-- 30_encoding.md R101, R112: the bytes an instruction was decoded from are its encoding, followed only by bytes that are never read. -/
def Obligations.EncodeOfDecodeIsTheBytes : Prop :=
  ∀ (src : Source) (bytes : List Byte) (i : Instr), decode src bytes = .ok i → i.source = src ∧ bytes.take i.size = encode i

/-- 30_encoding.md R102, R120: every byte written to `CMD` is one of the three commands or reserved, and every list of at least one byte that
is as long as its first two bits say is a frame of the type they say. -/
def Obligations.EveryByteIsDecoded : Prop :=
  (∀ v : Byte, decode .command [v] = .ok .nop ∧ v = 0 ∨ decode .command [v] = .ok .reset ∧ v = 1
      ∨ decode .command [v] = .ok .decode ∧ v = 2 ∨ decode .command [v] = .error .badCommand ∧ 3 ≤ v.toNat)
    ∧ (∀ (b : Byte) (bs : List Byte), frameSize (b.extractLsb' 0 2) ≤ bs.length + 1 →
        ∃ i, decode .frame (b :: bs) = .ok i ∧ i.size = frameSize (b.extractLsb' 0 2)
          ∧ (b.extractLsb' 0 2 = 0 ↔ ∃ f, i = .frame63 f) ∧ (b.extractLsb' 0 2 = 1 ↔ ∃ f, i = .frame53 f)
          ∧ (b.extractLsb' 0 2 = 2 ↔ ∃ f, i = .sid f) ∧ (b.extractLsb' 0 2 = 3 ↔ ∃ c, i = .untx c))

/-- 41_unpack.md R172–R174, 30_encoding.md R120: a few words written out from the encoding tables decode to the instructions they stand for. -/
def Obligations.SomeWordsDecode : Prop :=
  decode .command [0x02] = .ok .decode
    ∧ decode .frame [0xFF] = .ok (.untx 63)
    ∧ decode .frame [0x06, 0x00, 0x00, 0x00] = .ok (.sid { lspIndex2 := 1, lspIndex1 := 0, lspIndex0 := 0, ampIndex := 0 })
    ∧ decode .frame [0x1E, 0x18, 0x14, 0x84] = .ok (.sid { lspIndex2 := 7, lspIndex1 := 6, lspIndex0 := 5, ampIndex := 33 })

/-! ### Invariants and stops -/

/-- 10_state.md R33, R38, R39, R41–R44, R52 with the ranges 44_concealment.md R272, R273 and 46_synthesis_cng.md R361, R362 give: every step from any
state that satisfies the invariant, not only from reset, leaves one that does. -/
def Obligations.StepKeepsInvariant : Prop := ∀ s t : State, s.Inv → step s = .next t → t.Inv

/-- The invariant holds after reset. -/
def Obligations.ResetSatisfiesInvariant : Prop := State.reset.Inv

/-- 70_reset_and_hazards.md R435, 20_memory.md R80: no step changes the ROM or a parameter. No instruction touches the model's own
fields for the host (log entries 1 and 13). -/
def Obligations.ParametersAndHostFieldsStay : Prop :=
  (∀ s t : State, step s = .next t → t.params = s.params)
    ∧ ∀ (i : Instr) (s t : State), exec i s = .next t → t.params = s.params ∧ t.pending = s.pending ∧ t.readData = s.readData

/-- 10_state.md R42: where the ROM's gains are not negative, the gain memory stays in [0, 32767]. -/
def Obligations.GainMemoryStaysInRange : Prop :=
  ∀ s t : State, (∀ k : Fin 24, 0 ≤ s.params.rom.fixedCbGain[k].toInt) →
    0 ≤ s.core.interpGain.toInt → s.core.interpGain.toInt ≤ 32767 → step s = .next t →
    0 ≤ t.core.interpGain.toInt ∧ t.core.interpGain.toInt ≤ 32767

/-- 60_exceptions.md R405, R406: no step is refused, and which instructions can stop, and how. NOP and RESET never do, and the
harmonic fault is only the 5300 bit/s frame's. In a state that satisfies the invariant, with comfort-noise lags as in the default
table, the two faults of the rules are the only ones. The model's own faults are for an access outside the window (log entry 10),
which no instruction makes, and for a scratch index (log entry 11). -/
def Obligations.StopsOnlyAsTheRulesSay : Prop :=
  (∀ (s : State) (r : Refusal), step s ≠ .refused r)
    ∧ ∀ (i : Instr) (s : State) (e : Fault), exec i s = .fault e →
      i ≠ .nop ∧ i ≠ .reset ∧ e ≠ .outsideWindow
        ∧ (e = .indexFault → (∃ f, i = .frame53 f) ∨ (i = .decode ∧ s.regs.inBytes[0].extractLsb' 0 2 = 1))
        ∧ (s.Inv → NoiseLagsOk s.params → e = .romIndexFault ∨ e = .indexFault)

/-- 00_scope.md R13, R15 with the index ranges of 43_excitation.md R238, 44_concealment.md R270, R277: in a state that satisfies the
invariant, with comfort-noise lags as in the default table, the model's stop for a lag outside the history (log entry 11) never
occurs; and for every lag that passes it, each index into the history and each correlation window is inside its buffer, so the 0
that a read outside would give (log entry 17) is not what they read. -/
def Obligations.HistoryIndicesStayInRange : Prop :=
  (∀ (i : Instr) (s : State), s.Inv → NoiseLagsOk s.params → exec i s ≠ .fault .scratchIndexFault)
    ∧ (∀ lag i : Nat, 1 ≤ lag → lag ≤ 144 → i < 64 → residualIndex lag i < 146)
    ∧ (∀ lag i : Nat, 1 ≤ lag → lag ≤ 146 → i < 240 → voicedIndex lag i < 146 ∧ 146 ≤ voicedIndex lag i + lag)
    ∧ ∀ (lag b n : Nat) (dir : SearchDir) (i : Int), 18 ≤ lag → lag ≤ 146 →
        ((b = 266 ∧ n = 120 ∧ dir = .backward) ∨ (n = 60 ∧ ∃ j, j < 4 ∧ b = 146 + 60 * j)) →
        searchCentre lag - 3 ≤ i → i ≤ searchHi b lag n dir →
        0 ≤ (b : Int) + dirMul dir i ∧ (b : Int) + dirMul dir i + n ≤ 386
end

