-- ==== Sys2Proof/Laws/Primitives.lean ====
section
/-! SUPPORT. What the primitives can do: loops by induction, one array access after another, and the range of each clip, wrap and
product sum. -/

namespace Sys2Proof.Machine

/-! ### Loops -/

/-- A property that holds at the start and that each iteration carries on holds at the end. -/
theorem loop_induction {α : Type} (P : Nat → α → Prop) (n : Nat) (a : α) (f : α → Nat → α) (h0 : P 0 a)
    (hs : ∀ i x, i < n → P i x → P (i + 1) (f x i)) : P n (loop n a f) := by
  induction n with
  | zero => exact h0
  | succ n ih => exact hs n _ (Nat.lt_succ_self n) (ih fun i x hi => hs i x (Nat.lt_succ_of_lt hi))

/-- As `loop_induction`, for a property that does not mention the iteration. -/
theorem loop_invariant {α : Type} (P : α → Prop) (n : Nat) (a : α) (f : α → Nat → α) (h0 : P a)
    (hs : ∀ i x, i < n → P x → P (f x i)) : P (loop n a f) := loop_induction (fun _ => P) n a f h0 hs

@[simp] theorem loop_zero {α : Type} (a : α) (f : α → Nat → α) : loop 0 a f = a := rfl

theorem loop_succ {α : Type} (n : Nat) (a : α) (f : α → Nat → α) : loop (n + 1) a f = f (loop n a f) n := rfl

/-! ### Wraps and stores -/

/-- A stored 16-bit value is `wrap_16` of the value (R151). -/
theorem toInt_ofInt_16 (x : Int) : (BitVec.ofInt 16 x).toInt = wrap16 x := by
  rw [BitVec.toInt_ofInt, Int.bmod_def]; unfold wrap16; split <;> omega

/-- A stored 32-bit value is `wrap_32` of the value (R151). -/
theorem toInt_ofInt_32 (x : Int) : (BitVec.ofInt 32 x).toInt = wrap32 x := by
  rw [BitVec.toInt_ofInt, Int.bmod_def]; unfold wrap32; split <;> omega

theorem wrap16_range (x : Int) : -32768 ≤ wrap16 x ∧ wrap16 x ≤ 32767 := by unfold wrap16; omega

theorem wrap32_range (x : Int) : -2147483648 ≤ wrap32 x ∧ wrap32 x ≤ 2147483647 := by unfold wrap32; omega

/-- A value that fits is stored as it is. -/
theorem wrap16_of_fits {x : Int} (h : -32768 ≤ x) (h' : x ≤ 32767) : wrap16 x = x := by unfold wrap16; omega

/-- A value that fits is stored as it is. -/
theorem wrap32_of_fits {x : Int} (h : -2147483648 ≤ x) (h' : x ≤ 2147483647) : wrap32 x = x := by unfold wrap32; omega

/-- Only the value modulo 2^16 matters. -/
theorem wrap16_congr {x y : Int} (h : x % 65536 = y % 65536) : wrap16 x = wrap16 y := by unfold wrap16; omega

/-! ### Array accesses -/

theorem rd_of_lt {w n : Nat} (v : Vector (BitVec w) n) {i : Nat} (h : i < n) : rd v i = v[i].toInt := by simp [rd, cell, h]

theorem rd_of_ge {w n : Nat} (v : Vector (BitVec w) n) {i : Nat} (h : n ≤ i) : rd v i = 0 := by
  simp [rd, cell, Nat.not_lt.mpr h]

theorem rd_wr_same {w n : Nat} (v : Vector (BitVec w) n) {i : Nat} (x : Int) (h : i < n) :
    rd (wr v i x) i = (BitVec.ofInt w x).toInt := by simp [rd, cell, wr, h]

theorem rd_wr_other {w n : Nat} (v : Vector (BitVec w) n) {i k : Nat} (x : Int) (h : k ≠ i) : rd (wr v i x) k = rd v k := by
  unfold rd cell wr
  split
  · rw [Vector.getElem_setIfInBounds_ne _ (Ne.symm h)]
  · rfl

theorem rd_build {w n : Nat} (f : Nat → Int) {i : Nat} (h : i < n) :
    rd (build f : Vector (BitVec w) n) i = (BitVec.ofInt w (f i)).toInt := by simp [rd, cell, build, h]

theorem rd_slice {w m n : Nat} (v : Vector (BitVec w) m) (off : Nat) {i : Nat} (h : i < n) :
    rd (slice v off n) i = rd v (off + i) := by simp [rd, cell, slice, h]

@[simp] theorem rd_replicate_zero {w n : Nat} (i : Nat) : rd (Vector.replicate n (0 : BitVec w)) i = 0 := by
  unfold rd cell; split <;> simp

/-- Two arrays with the same reads are the same. -/
theorem ext_rd {w n : Nat} {v u : Vector (BitVec w) n} (h : ∀ i, i < n → rd v i = rd u i) : v = u := by
  ext i hi
  have := h i hi
  rw [rd_of_lt v hi, rd_of_lt u hi] at this
  rw [BitVec.toInt_inj.mp this]

theorem rd_range_16 {n : Nat} (v : Vector I16 n) (i : Nat) : -32768 ≤ rd v i ∧ rd v i ≤ 32767 := by
  have h := BitVec.toInt_lt (x := cell v i)
  have h' := BitVec.le_toInt (x := cell v i)
  unfold rd
  omega

theorem rd_range_32 {n : Nat} (v : Vector I32 n) (i : Nat) : -2147483648 ≤ rd v i ∧ rd v i ≤ 2147483647 := by
  have h := BitVec.toInt_lt (x := cell v i)
  have h' := BitVec.le_toInt (x := cell v i)
  unfold rd
  omega

theorem toInt_range_32 (x : I32) : -2147483648 ≤ x.toInt ∧ x.toInt ≤ 2147483647 := by
  have h := BitVec.toInt_lt (x := x)
  have h' := BitVec.le_toInt (x := x)
  omega

/-! ### Clips -/

theorem clip_range (x : Int) {lo hi : Int} (h : lo ≤ hi) : lo ≤ clip x lo hi ∧ clip x lo hi ≤ hi := by
  unfold clip; split <;> try split
  all_goals omega

theorem clip_of_fits {x lo hi : Int} (h : lo ≤ x) (h' : x ≤ hi) : clip x lo hi = x := by
  unfold clip; split <;> try split
  all_goals omega

theorem clip16_range (x : Int) : -32768 ≤ clip16 x ∧ clip16 x ≤ 32767 := clip_range x (by omega)

theorem clip32_range (x : Int) : -2147483648 ≤ clip32 x ∧ clip32 x ≤ 2147483647 := clip_range x (by omega)

theorem clip16_of_fits {x : Int} (h : -32768 ≤ x) (h' : x ≤ 32767) : clip16 x = x := clip_of_fits h h'

theorem clip32_of_fits {x : Int} (h : -2147483648 ≤ x) (h' : x ≤ 2147483647) : clip32 x = x := clip_of_fits h h'

theorem satDadd32_range (a b : Int) : -2147483648 ≤ satDadd32 a b ∧ satDadd32 a b ≤ 2147483647 := clip32_range _

/-- A clipped sum of two values that are not negative is not negative. -/
theorem satDadd32_nonneg {a b : Int} (ha : 0 ≤ a) (hb : 0 ≤ b) : 0 ≤ satDadd32 a b := by
  unfold satDadd32 satAdd32 clip32 clip
  split <;> split <;> try split
  all_goals (try split) <;> omega

/-! ### Sums of products -/

theorem dot_range (n : Nat) (a b : Nat → Int) : -2147483648 ≤ dot n a b ∧ dot n a b ≤ 2147483647 :=
  loop_invariant (fun x => -2147483648 ≤ x ∧ x ≤ 2147483647) n 0 _ (by omega) fun _ _ _ _ => satDadd32_range _ _

/-- An energy is not negative. -/
theorem dot_self_nonneg (n : Nat) (a : Nat → Int) : 0 ≤ dot n a a :=
  loop_invariant (fun x => 0 ≤ x) n 0 _ (le_refl 0) fun i _ _ h => satDadd32_nonneg h (mul_self_nonneg (a i))

/-- A product sum with a vector of zeros is 0. -/
theorem dot_zero (n : Nat) (a b : Nat → Int) (h : ∀ i, i < n → a i = 0) : dot n a b = 0 :=
  loop_invariant (fun x => x = 0) n 0 _ rfl fun i x hi hx => by subst hx; rw [h i hi, zero_mul]; rfl

end Sys2Proof.Machine
end

