-- ==== Sys2Proof/Laws/State.lean ====
section
/-! SUPPORT. One lemma per field per update of the state. -/

namespace Sys2Proof.Machine

/-! ### `writeLspIndex` -/

@[simp] theorem writeLspIndex_prevLsp (c : Persistent) (a b d : BitVec 8) : (writeLspIndex c a b d).prevLsp = c.prevLsp := by unfold writeLspIndex; rfl
@[simp] theorem writeLspIndex_sidLsp (c : Persistent) (a b d : BitVec 8) : (writeLspIndex c a b d).sidLsp = c.sidLsp := by unfold writeLspIndex; rfl
@[simp] theorem writeLspIndex_curFrameType (c : Persistent) (a b d : BitVec 8) : (writeLspIndex c a b d).curFrameType = c.curFrameType := by unfold writeLspIndex; rfl
@[simp] theorem writeLspIndex_pastFrameType (c : Persistent) (a b d : BitVec 8) : (writeLspIndex c a b d).pastFrameType = c.pastFrameType := by unfold writeLspIndex; rfl
@[simp] theorem writeLspIndex_curRate (c : Persistent) (a b d : BitVec 8) : (writeLspIndex c a b d).curRate = c.curRate := by unfold writeLspIndex; rfl
@[simp] theorem writeLspIndex_prevExcitation (c : Persistent) (a b d : BitVec 8) : (writeLspIndex c a b d).prevExcitation = c.prevExcitation := by unfold writeLspIndex; rfl
@[simp] theorem writeLspIndex_synthMem (c : Persistent) (a b d : BitVec 8) : (writeLspIndex c a b d).synthMem = c.synthMem := by unfold writeLspIndex; rfl
@[simp] theorem writeLspIndex_firMem (c : Persistent) (a b d : BitVec 8) : (writeLspIndex c a b d).firMem = c.firMem := by unfold writeLspIndex; rfl
@[simp] theorem writeLspIndex_iirMem (c : Persistent) (a b d : BitVec 8) : (writeLspIndex c a b d).iirMem = c.iirMem := by unfold writeLspIndex; rfl
@[simp] theorem writeLspIndex_pitchLag (c : Persistent) (a b d : BitVec 8) : (writeLspIndex c a b d).pitchLag = c.pitchLag := by unfold writeLspIndex; rfl
@[simp] theorem writeLspIndex_subframe (c : Persistent) (a b d : BitVec 8) : (writeLspIndex c a b d).subframe = c.subframe := by unfold writeLspIndex; rfl
@[simp] theorem writeLspIndex_lspIndex (c : Persistent) (a b d : BitVec 8) : (writeLspIndex c a b d).lspIndex = #v[d, b, a] := by unfold writeLspIndex; rfl
@[simp] theorem writeLspIndex_erasedFrames (c : Persistent) (a b d : BitVec 8) : (writeLspIndex c a b d).erasedFrames = c.erasedFrames := by unfold writeLspIndex; rfl
@[simp] theorem writeLspIndex_interpGain (c : Persistent) (a b d : BitVec 8) : (writeLspIndex c a b d).interpGain = c.interpGain := by unfold writeLspIndex; rfl
@[simp] theorem writeLspIndex_interpIndex (c : Persistent) (a b d : BitVec 8) : (writeLspIndex c a b d).interpIndex = c.interpIndex := by unfold writeLspIndex; rfl
@[simp] theorem writeLspIndex_sidGain (c : Persistent) (a b d : BitVec 8) : (writeLspIndex c a b d).sidGain = c.sidGain := by unfold writeLspIndex; rfl
@[simp] theorem writeLspIndex_curGain (c : Persistent) (a b d : BitVec 8) : (writeLspIndex c a b d).curGain = c.curGain := by unfold writeLspIndex; rfl
@[simp] theorem writeLspIndex_reflectionCoef (c : Persistent) (a b d : BitVec 8) : (writeLspIndex c a b d).reflectionCoef = c.reflectionCoef := by unfold writeLspIndex; rfl
@[simp] theorem writeLspIndex_pfGain (c : Persistent) (a b d : BitVec 8) : (writeLspIndex c a b d).pfGain = c.pfGain := by unfold writeLspIndex; rfl
@[simp] theorem writeLspIndex_randomSeed (c : Persistent) (a b d : BitVec 8) : (writeLspIndex c a b d).randomSeed = c.randomSeed := by unfold writeLspIndex; rfl
@[simp] theorem writeLspIndex_cngRandomSeed (c : Persistent) (a b d : BitVec 8) : (writeLspIndex c a b d).cngRandomSeed = c.cngRandomSeed := by unfold writeLspIndex; rfl
@[simp] theorem writeLspIndex_postfilter (c : Persistent) (a b d : BitVec 8) : (writeLspIndex c a b d).postfilter = c.postfilter := by unfold writeLspIndex; rfl

/-! ### `countErasure` -/

@[simp] theorem countErasure_prevLsp (b : Bool) (c : Persistent) : (countErasure b c).prevLsp = c.prevLsp := by unfold countErasure; rfl
@[simp] theorem countErasure_sidLsp (b : Bool) (c : Persistent) : (countErasure b c).sidLsp = c.sidLsp := by unfold countErasure; rfl
@[simp] theorem countErasure_curFrameType (b : Bool) (c : Persistent) : (countErasure b c).curFrameType = c.curFrameType := by unfold countErasure; rfl
@[simp] theorem countErasure_pastFrameType (b : Bool) (c : Persistent) : (countErasure b c).pastFrameType = c.pastFrameType := by unfold countErasure; rfl
@[simp] theorem countErasure_curRate (b : Bool) (c : Persistent) : (countErasure b c).curRate = c.curRate := by unfold countErasure; rfl
@[simp] theorem countErasure_prevExcitation (b : Bool) (c : Persistent) : (countErasure b c).prevExcitation = c.prevExcitation := by unfold countErasure; rfl
@[simp] theorem countErasure_synthMem (b : Bool) (c : Persistent) : (countErasure b c).synthMem = c.synthMem := by unfold countErasure; rfl
@[simp] theorem countErasure_firMem (b : Bool) (c : Persistent) : (countErasure b c).firMem = c.firMem := by unfold countErasure; rfl
@[simp] theorem countErasure_iirMem (b : Bool) (c : Persistent) : (countErasure b c).iirMem = c.iirMem := by unfold countErasure; rfl
@[simp] theorem countErasure_pitchLag (b : Bool) (c : Persistent) : (countErasure b c).pitchLag = c.pitchLag := by unfold countErasure; rfl
@[simp] theorem countErasure_subframe (b : Bool) (c : Persistent) : (countErasure b c).subframe = c.subframe := by unfold countErasure; rfl
@[simp] theorem countErasure_lspIndex (b : Bool) (c : Persistent) : (countErasure b c).lspIndex = c.lspIndex := by unfold countErasure; rfl
@[simp] theorem countErasure_erasedFrames (b : Bool) (c : Persistent) : (countErasure b c).erasedFrames = if b then min (c.erasedFrames + 1) 3 else 0 := by unfold countErasure; rfl
@[simp] theorem countErasure_interpGain (b : Bool) (c : Persistent) : (countErasure b c).interpGain = c.interpGain := by unfold countErasure; rfl
@[simp] theorem countErasure_interpIndex (b : Bool) (c : Persistent) : (countErasure b c).interpIndex = c.interpIndex := by unfold countErasure; rfl
@[simp] theorem countErasure_sidGain (b : Bool) (c : Persistent) : (countErasure b c).sidGain = c.sidGain := by unfold countErasure; rfl
@[simp] theorem countErasure_curGain (b : Bool) (c : Persistent) : (countErasure b c).curGain = c.curGain := by unfold countErasure; rfl
@[simp] theorem countErasure_reflectionCoef (b : Bool) (c : Persistent) : (countErasure b c).reflectionCoef = c.reflectionCoef := by unfold countErasure; rfl
@[simp] theorem countErasure_pfGain (b : Bool) (c : Persistent) : (countErasure b c).pfGain = c.pfGain := by unfold countErasure; rfl
@[simp] theorem countErasure_randomSeed (b : Bool) (c : Persistent) : (countErasure b c).randomSeed = c.randomSeed := by unfold countErasure; rfl
@[simp] theorem countErasure_cngRandomSeed (b : Bool) (c : Persistent) : (countErasure b c).cngRandomSeed = c.cngRandomSeed := by unfold countErasure; rfl
@[simp] theorem countErasure_postfilter (b : Bool) (c : Persistent) : (countErasure b c).postfilter = c.postfilter := by unfold countErasure; rfl

/-! ### `classify` -/

@[simp] theorem classify_prevLsp (c : Persistent) (y : ExcBuf) (k : Int) : (classify c y k).prevLsp = c.prevLsp := by unfold classify; rfl
@[simp] theorem classify_sidLsp (c : Persistent) (y : ExcBuf) (k : Int) : (classify c y k).sidLsp = c.sidLsp := by unfold classify; rfl
@[simp] theorem classify_curFrameType (c : Persistent) (y : ExcBuf) (k : Int) : (classify c y k).curFrameType = c.curFrameType := by unfold classify; rfl
@[simp] theorem classify_pastFrameType (c : Persistent) (y : ExcBuf) (k : Int) : (classify c y k).pastFrameType = c.pastFrameType := by unfold classify; rfl
@[simp] theorem classify_curRate (c : Persistent) (y : ExcBuf) (k : Int) : (classify c y k).curRate = c.curRate := by unfold classify; rfl
@[simp] theorem classify_prevExcitation (c : Persistent) (y : ExcBuf) (k : Int) : (classify c y k).prevExcitation = c.prevExcitation := by unfold classify; rfl
@[simp] theorem classify_synthMem (c : Persistent) (y : ExcBuf) (k : Int) : (classify c y k).synthMem = c.synthMem := by unfold classify; rfl
@[simp] theorem classify_firMem (c : Persistent) (y : ExcBuf) (k : Int) : (classify c y k).firMem = c.firMem := by unfold classify; rfl
@[simp] theorem classify_iirMem (c : Persistent) (y : ExcBuf) (k : Int) : (classify c y k).iirMem = c.iirMem := by unfold classify; rfl
@[simp] theorem classify_pitchLag (c : Persistent) (y : ExcBuf) (k : Int) : (classify c y k).pitchLag = c.pitchLag := by unfold classify; rfl
@[simp] theorem classify_subframe (c : Persistent) (y : ExcBuf) (k : Int) : (classify c y k).subframe = c.subframe := by unfold classify; rfl
@[simp] theorem classify_lspIndex (c : Persistent) (y : ExcBuf) (k : Int) : (classify c y k).lspIndex = c.lspIndex := by unfold classify; rfl
@[simp] theorem classify_erasedFrames (c : Persistent) (y : ExcBuf) (k : Int) : (classify c y k).erasedFrames = c.erasedFrames := by unfold classify; rfl
@[simp] theorem classify_interpGain (c : Persistent) (y : ExcBuf) (k : Int) : (classify c y k).interpGain = c.interpGain := by unfold classify; rfl
@[simp] theorem classify_interpIndex (c : Persistent) (y : ExcBuf) (k : Int) : (classify c y k).interpIndex = BitVec.ofInt 32 (interpIndexOf y (lagOf c 2)) := by unfold classify; rfl
@[simp] theorem classify_sidGain (c : Persistent) (y : ExcBuf) (k : Int) : (classify c y k).sidGain = BitVec.ofInt 32 (excEnergy y) := by unfold classify; rfl
@[simp] theorem classify_curGain (c : Persistent) (y : ExcBuf) (k : Int) : (classify c y k).curGain = BitVec.ofInt 32 k := by unfold classify; rfl
@[simp] theorem classify_reflectionCoef (c : Persistent) (y : ExcBuf) (k : Int) : (classify c y k).reflectionCoef = c.reflectionCoef := by unfold classify; rfl
@[simp] theorem classify_pfGain (c : Persistent) (y : ExcBuf) (k : Int) : (classify c y k).pfGain = c.pfGain := by unfold classify; rfl
@[simp] theorem classify_randomSeed (c : Persistent) (y : ExcBuf) (k : Int) : (classify c y k).randomSeed = c.randomSeed := by unfold classify; rfl
@[simp] theorem classify_cngRandomSeed (c : Persistent) (y : ExcBuf) (k : Int) : (classify c y k).cngRandomSeed = c.cngRandomSeed := by unfold classify; rfl
@[simp] theorem classify_postfilter (c : Persistent) (y : ExcBuf) (k : Int) : (classify c y k).postfilter = c.postfilter := by unfold classify; rfl

/-! ### `decayGain` -/

@[simp] theorem decayGain_prevLsp (c : Persistent) : (decayGain c).prevLsp = c.prevLsp := by unfold decayGain; rfl
@[simp] theorem decayGain_sidLsp (c : Persistent) : (decayGain c).sidLsp = c.sidLsp := by unfold decayGain; rfl
@[simp] theorem decayGain_curFrameType (c : Persistent) : (decayGain c).curFrameType = c.curFrameType := by unfold decayGain; rfl
@[simp] theorem decayGain_pastFrameType (c : Persistent) : (decayGain c).pastFrameType = c.pastFrameType := by unfold decayGain; rfl
@[simp] theorem decayGain_curRate (c : Persistent) : (decayGain c).curRate = c.curRate := by unfold decayGain; rfl
@[simp] theorem decayGain_prevExcitation (c : Persistent) : (decayGain c).prevExcitation = c.prevExcitation := by unfold decayGain; rfl
@[simp] theorem decayGain_synthMem (c : Persistent) : (decayGain c).synthMem = c.synthMem := by unfold decayGain; rfl
@[simp] theorem decayGain_firMem (c : Persistent) : (decayGain c).firMem = c.firMem := by unfold decayGain; rfl
@[simp] theorem decayGain_iirMem (c : Persistent) : (decayGain c).iirMem = c.iirMem := by unfold decayGain; rfl
@[simp] theorem decayGain_pitchLag (c : Persistent) : (decayGain c).pitchLag = c.pitchLag := by unfold decayGain; rfl
@[simp] theorem decayGain_subframe (c : Persistent) : (decayGain c).subframe = c.subframe := by unfold decayGain; rfl
@[simp] theorem decayGain_lspIndex (c : Persistent) : (decayGain c).lspIndex = c.lspIndex := by unfold decayGain; rfl
@[simp] theorem decayGain_erasedFrames (c : Persistent) : (decayGain c).erasedFrames = c.erasedFrames := by unfold decayGain; rfl
@[simp] theorem decayGain_interpGain (c : Persistent) : (decayGain c).interpGain = BitVec.ofInt 32 (asr (3 * c.interpGain.toInt + 2) 2) := by unfold decayGain; rfl
@[simp] theorem decayGain_interpIndex (c : Persistent) : (decayGain c).interpIndex = c.interpIndex := by unfold decayGain; rfl
@[simp] theorem decayGain_sidGain (c : Persistent) : (decayGain c).sidGain = c.sidGain := by unfold decayGain; rfl
@[simp] theorem decayGain_curGain (c : Persistent) : (decayGain c).curGain = c.curGain := by unfold decayGain; rfl
@[simp] theorem decayGain_reflectionCoef (c : Persistent) : (decayGain c).reflectionCoef = c.reflectionCoef := by unfold decayGain; rfl
@[simp] theorem decayGain_pfGain (c : Persistent) : (decayGain c).pfGain = c.pfGain := by unfold decayGain; rfl
@[simp] theorem decayGain_randomSeed (c : Persistent) : (decayGain c).randomSeed = c.randomSeed := by unfold decayGain; rfl
@[simp] theorem decayGain_cngRandomSeed (c : Persistent) : (decayGain c).cngRandomSeed = c.cngRandomSeed := by unfold decayGain; rfl
@[simp] theorem decayGain_postfilter (c : Persistent) : (decayGain c).postfilter = c.postfilter := by unfold decayGain; rfl

/-! ### `mute` -/

@[simp] theorem mute_prevLsp (c : Persistent) : (mute c).prevLsp = c.prevLsp := by unfold mute; rfl
@[simp] theorem mute_sidLsp (c : Persistent) : (mute c).sidLsp = c.sidLsp := by unfold mute; rfl
@[simp] theorem mute_curFrameType (c : Persistent) : (mute c).curFrameType = c.curFrameType := by unfold mute; rfl
@[simp] theorem mute_pastFrameType (c : Persistent) : (mute c).pastFrameType = c.pastFrameType := by unfold mute; rfl
@[simp] theorem mute_curRate (c : Persistent) : (mute c).curRate = c.curRate := by unfold mute; rfl
@[simp] theorem mute_prevExcitation (c : Persistent) : (mute c).prevExcitation = Vector.replicate 146 0 := by unfold mute; rfl
@[simp] theorem mute_synthMem (c : Persistent) : (mute c).synthMem = Vector.replicate 10 0 := by unfold mute; rfl
@[simp] theorem mute_firMem (c : Persistent) : (mute c).firMem = Vector.replicate 10 0 := by unfold mute; rfl
@[simp] theorem mute_iirMem (c : Persistent) : (mute c).iirMem = Vector.replicate 10 0 := by unfold mute; rfl
@[simp] theorem mute_pitchLag (c : Persistent) : (mute c).pitchLag = c.pitchLag := by unfold mute; rfl
@[simp] theorem mute_subframe (c : Persistent) : (mute c).subframe = c.subframe := by unfold mute; rfl
@[simp] theorem mute_lspIndex (c : Persistent) : (mute c).lspIndex = c.lspIndex := by unfold mute; rfl
@[simp] theorem mute_erasedFrames (c : Persistent) : (mute c).erasedFrames = c.erasedFrames := by unfold mute; rfl
@[simp] theorem mute_interpGain (c : Persistent) : (mute c).interpGain = c.interpGain := by unfold mute; rfl
@[simp] theorem mute_interpIndex (c : Persistent) : (mute c).interpIndex = c.interpIndex := by unfold mute; rfl
@[simp] theorem mute_sidGain (c : Persistent) : (mute c).sidGain = c.sidGain := by unfold mute; rfl
@[simp] theorem mute_curGain (c : Persistent) : (mute c).curGain = c.curGain := by unfold mute; rfl
@[simp] theorem mute_reflectionCoef (c : Persistent) : (mute c).reflectionCoef = c.reflectionCoef := by unfold mute; rfl
@[simp] theorem mute_pfGain (c : Persistent) : (mute c).pfGain = c.pfGain := by unfold mute; rfl
@[simp] theorem mute_randomSeed (c : Persistent) : (mute c).randomSeed = c.randomSeed := by unfold mute; rfl
@[simp] theorem mute_cngRandomSeed (c : Persistent) : (mute c).cngRandomSeed = c.cngRandomSeed := by unfold mute; rfl
@[simp] theorem mute_postfilter (c : Persistent) : (mute c).postfilter = c.postfilter := by unfold mute; rfl

/-! ### `handOff` -/

@[simp] theorem handOff_prevLsp (c : Persistent) (o : Vector I16 240) : (handOff c o).prevLsp = c.prevLsp := by unfold handOff; rfl
@[simp] theorem handOff_sidLsp (c : Persistent) (o : Vector I16 240) : (handOff c o).sidLsp = c.sidLsp := by unfold handOff; rfl
@[simp] theorem handOff_curFrameType (c : Persistent) (o : Vector I16 240) : (handOff c o).curFrameType = c.curFrameType := by unfold handOff; rfl
@[simp] theorem handOff_pastFrameType (c : Persistent) (o : Vector I16 240) : (handOff c o).pastFrameType = c.pastFrameType := by unfold handOff; rfl
@[simp] theorem handOff_curRate (c : Persistent) (o : Vector I16 240) : (handOff c o).curRate = c.curRate := by unfold handOff; rfl
@[simp] theorem handOff_prevExcitation (c : Persistent) (o : Vector I16 240) : (handOff c o).prevExcitation = slice o 94 146 := by unfold handOff; rfl
@[simp] theorem handOff_synthMem (c : Persistent) (o : Vector I16 240) : (handOff c o).synthMem = c.synthMem := by unfold handOff; rfl
@[simp] theorem handOff_firMem (c : Persistent) (o : Vector I16 240) : (handOff c o).firMem = c.firMem := by unfold handOff; rfl
@[simp] theorem handOff_iirMem (c : Persistent) (o : Vector I16 240) : (handOff c o).iirMem = c.iirMem := by unfold handOff; rfl
@[simp] theorem handOff_pitchLag (c : Persistent) (o : Vector I16 240) : (handOff c o).pitchLag = c.pitchLag := by unfold handOff; rfl
@[simp] theorem handOff_subframe (c : Persistent) (o : Vector I16 240) : (handOff c o).subframe = c.subframe := by unfold handOff; rfl
@[simp] theorem handOff_lspIndex (c : Persistent) (o : Vector I16 240) : (handOff c o).lspIndex = c.lspIndex := by unfold handOff; rfl
@[simp] theorem handOff_erasedFrames (c : Persistent) (o : Vector I16 240) : (handOff c o).erasedFrames = c.erasedFrames := by unfold handOff; rfl
@[simp] theorem handOff_interpGain (c : Persistent) (o : Vector I16 240) : (handOff c o).interpGain = c.interpGain := by unfold handOff; rfl
@[simp] theorem handOff_interpIndex (c : Persistent) (o : Vector I16 240) : (handOff c o).interpIndex = c.interpIndex := by unfold handOff; rfl
@[simp] theorem handOff_sidGain (c : Persistent) (o : Vector I16 240) : (handOff c o).sidGain = c.sidGain := by unfold handOff; rfl
@[simp] theorem handOff_curGain (c : Persistent) (o : Vector I16 240) : (handOff c o).curGain = c.curGain := by unfold handOff; rfl
@[simp] theorem handOff_reflectionCoef (c : Persistent) (o : Vector I16 240) : (handOff c o).reflectionCoef = c.reflectionCoef := by unfold handOff; rfl
@[simp] theorem handOff_pfGain (c : Persistent) (o : Vector I16 240) : (handOff c o).pfGain = c.pfGain := by unfold handOff; rfl
@[simp] theorem handOff_randomSeed (c : Persistent) (o : Vector I16 240) : (handOff c o).randomSeed = c.randomSeed := by unfold handOff; rfl
@[simp] theorem handOff_cngRandomSeed (c : Persistent) (o : Vector I16 240) : (handOff c o).cngRandomSeed = c.cngRandomSeed := by unfold handOff; rfl
@[simp] theorem handOff_postfilter (c : Persistent) (o : Vector I16 240) : (handOff c o).postfilter = c.postfilter := by unfold handOff; rfl

/-! ### `resetCngSeed` -/

@[simp] theorem resetCngSeed_prevLsp (c : Persistent) : (resetCngSeed c).prevLsp = c.prevLsp := by unfold resetCngSeed; rfl
@[simp] theorem resetCngSeed_sidLsp (c : Persistent) : (resetCngSeed c).sidLsp = c.sidLsp := by unfold resetCngSeed; rfl
@[simp] theorem resetCngSeed_curFrameType (c : Persistent) : (resetCngSeed c).curFrameType = c.curFrameType := by unfold resetCngSeed; rfl
@[simp] theorem resetCngSeed_pastFrameType (c : Persistent) : (resetCngSeed c).pastFrameType = c.pastFrameType := by unfold resetCngSeed; rfl
@[simp] theorem resetCngSeed_curRate (c : Persistent) : (resetCngSeed c).curRate = c.curRate := by unfold resetCngSeed; rfl
@[simp] theorem resetCngSeed_prevExcitation (c : Persistent) : (resetCngSeed c).prevExcitation = c.prevExcitation := by unfold resetCngSeed; rfl
@[simp] theorem resetCngSeed_synthMem (c : Persistent) : (resetCngSeed c).synthMem = c.synthMem := by unfold resetCngSeed; rfl
@[simp] theorem resetCngSeed_firMem (c : Persistent) : (resetCngSeed c).firMem = c.firMem := by unfold resetCngSeed; rfl
@[simp] theorem resetCngSeed_iirMem (c : Persistent) : (resetCngSeed c).iirMem = c.iirMem := by unfold resetCngSeed; rfl
@[simp] theorem resetCngSeed_pitchLag (c : Persistent) : (resetCngSeed c).pitchLag = c.pitchLag := by unfold resetCngSeed; rfl
@[simp] theorem resetCngSeed_subframe (c : Persistent) : (resetCngSeed c).subframe = c.subframe := by unfold resetCngSeed; rfl
@[simp] theorem resetCngSeed_lspIndex (c : Persistent) : (resetCngSeed c).lspIndex = c.lspIndex := by unfold resetCngSeed; rfl
@[simp] theorem resetCngSeed_erasedFrames (c : Persistent) : (resetCngSeed c).erasedFrames = c.erasedFrames := by unfold resetCngSeed; rfl
@[simp] theorem resetCngSeed_interpGain (c : Persistent) : (resetCngSeed c).interpGain = c.interpGain := by unfold resetCngSeed; rfl
@[simp] theorem resetCngSeed_interpIndex (c : Persistent) : (resetCngSeed c).interpIndex = c.interpIndex := by unfold resetCngSeed; rfl
@[simp] theorem resetCngSeed_sidGain (c : Persistent) : (resetCngSeed c).sidGain = c.sidGain := by unfold resetCngSeed; rfl
@[simp] theorem resetCngSeed_curGain (c : Persistent) : (resetCngSeed c).curGain = c.curGain := by unfold resetCngSeed; rfl
@[simp] theorem resetCngSeed_reflectionCoef (c : Persistent) : (resetCngSeed c).reflectionCoef = c.reflectionCoef := by unfold resetCngSeed; rfl
@[simp] theorem resetCngSeed_pfGain (c : Persistent) : (resetCngSeed c).pfGain = c.pfGain := by unfold resetCngSeed; rfl
@[simp] theorem resetCngSeed_randomSeed (c : Persistent) : (resetCngSeed c).randomSeed = c.randomSeed := by unfold resetCngSeed; rfl
@[simp] theorem resetCngSeed_cngRandomSeed (c : Persistent) : (resetCngSeed c).cngRandomSeed = 12345 := by unfold resetCngSeed; rfl
@[simp] theorem resetCngSeed_postfilter (c : Persistent) : (resetCngSeed c).postfilter = c.postfilter := by unfold resetCngSeed; rfl

/-! ### `setSubframe` -/

@[simp] theorem setSubframe_prevLsp (c : Persistent) (i : Nat) (g : Subframe → Subframe) :
    (setSubframe c i g).prevLsp = c.prevLsp := by unfold setSubframe; split <;> rfl
@[simp] theorem setSubframe_sidLsp (c : Persistent) (i : Nat) (g : Subframe → Subframe) :
    (setSubframe c i g).sidLsp = c.sidLsp := by unfold setSubframe; split <;> rfl
@[simp] theorem setSubframe_curFrameType (c : Persistent) (i : Nat) (g : Subframe → Subframe) :
    (setSubframe c i g).curFrameType = c.curFrameType := by unfold setSubframe; split <;> rfl
@[simp] theorem setSubframe_pastFrameType (c : Persistent) (i : Nat) (g : Subframe → Subframe) :
    (setSubframe c i g).pastFrameType = c.pastFrameType := by unfold setSubframe; split <;> rfl
@[simp] theorem setSubframe_curRate (c : Persistent) (i : Nat) (g : Subframe → Subframe) :
    (setSubframe c i g).curRate = c.curRate := by unfold setSubframe; split <;> rfl
@[simp] theorem setSubframe_prevExcitation (c : Persistent) (i : Nat) (g : Subframe → Subframe) :
    (setSubframe c i g).prevExcitation = c.prevExcitation := by unfold setSubframe; split <;> rfl
@[simp] theorem setSubframe_synthMem (c : Persistent) (i : Nat) (g : Subframe → Subframe) :
    (setSubframe c i g).synthMem = c.synthMem := by unfold setSubframe; split <;> rfl
@[simp] theorem setSubframe_firMem (c : Persistent) (i : Nat) (g : Subframe → Subframe) :
    (setSubframe c i g).firMem = c.firMem := by unfold setSubframe; split <;> rfl
@[simp] theorem setSubframe_iirMem (c : Persistent) (i : Nat) (g : Subframe → Subframe) :
    (setSubframe c i g).iirMem = c.iirMem := by unfold setSubframe; split <;> rfl
@[simp] theorem setSubframe_pitchLag (c : Persistent) (i : Nat) (g : Subframe → Subframe) :
    (setSubframe c i g).pitchLag = c.pitchLag := by unfold setSubframe; split <;> rfl
@[simp] theorem setSubframe_lspIndex (c : Persistent) (i : Nat) (g : Subframe → Subframe) :
    (setSubframe c i g).lspIndex = c.lspIndex := by unfold setSubframe; split <;> rfl
@[simp] theorem setSubframe_erasedFrames (c : Persistent) (i : Nat) (g : Subframe → Subframe) :
    (setSubframe c i g).erasedFrames = c.erasedFrames := by unfold setSubframe; split <;> rfl
@[simp] theorem setSubframe_interpGain (c : Persistent) (i : Nat) (g : Subframe → Subframe) :
    (setSubframe c i g).interpGain = c.interpGain := by unfold setSubframe; split <;> rfl
@[simp] theorem setSubframe_interpIndex (c : Persistent) (i : Nat) (g : Subframe → Subframe) :
    (setSubframe c i g).interpIndex = c.interpIndex := by unfold setSubframe; split <;> rfl
@[simp] theorem setSubframe_sidGain (c : Persistent) (i : Nat) (g : Subframe → Subframe) :
    (setSubframe c i g).sidGain = c.sidGain := by unfold setSubframe; split <;> rfl
@[simp] theorem setSubframe_curGain (c : Persistent) (i : Nat) (g : Subframe → Subframe) :
    (setSubframe c i g).curGain = c.curGain := by unfold setSubframe; split <;> rfl
@[simp] theorem setSubframe_reflectionCoef (c : Persistent) (i : Nat) (g : Subframe → Subframe) :
    (setSubframe c i g).reflectionCoef = c.reflectionCoef := by unfold setSubframe; split <;> rfl
@[simp] theorem setSubframe_pfGain (c : Persistent) (i : Nat) (g : Subframe → Subframe) :
    (setSubframe c i g).pfGain = c.pfGain := by unfold setSubframe; split <;> rfl
@[simp] theorem setSubframe_randomSeed (c : Persistent) (i : Nat) (g : Subframe → Subframe) :
    (setSubframe c i g).randomSeed = c.randomSeed := by unfold setSubframe; split <;> rfl
@[simp] theorem setSubframe_cngRandomSeed (c : Persistent) (i : Nat) (g : Subframe → Subframe) :
    (setSubframe c i g).cngRandomSeed = c.cngRandomSeed := by unfold setSubframe; split <;> rfl
@[simp] theorem setSubframe_postfilter (c : Persistent) (i : Nat) (g : Subframe → Subframe) :
    (setSubframe c i g).postfilter = c.postfilter := by unfold setSubframe; split <;> rfl

/-- The record of the subframe that was written. -/
@[simp] theorem subframeAt_setSubframe_same (c : Persistent) (i : Nat) (g : Subframe → Subframe) (h : i < 4) :
    subframeAt (setSubframe c i g) i = g (subframeAt c i) := by simp [subframeAt, setSubframe, h]

/-- The records of the other subframes. -/
theorem subframeAt_setSubframe_other (c : Persistent) (i j : Nat) (g : Subframe → Subframe) (h : j ≠ i) :
    subframeAt (setSubframe c i g) j = subframeAt c j := by
  unfold subframeAt setSubframe
  split
  · split
    · simp [Vector.getElem_set_ne, Ne.symm h]
    · rfl
  · rfl

/-! ### `smoothCurGain` -/

@[simp] theorem smoothCurGain_prevLsp (p : Params) (c : Persistent) :
    (smoothCurGain p c).prevLsp = c.prevLsp := by unfold smoothCurGain; split <;> rfl
@[simp] theorem smoothCurGain_sidLsp (p : Params) (c : Persistent) :
    (smoothCurGain p c).sidLsp = c.sidLsp := by unfold smoothCurGain; split <;> rfl
@[simp] theorem smoothCurGain_curFrameType (p : Params) (c : Persistent) :
    (smoothCurGain p c).curFrameType = c.curFrameType := by unfold smoothCurGain; split <;> rfl
@[simp] theorem smoothCurGain_pastFrameType (p : Params) (c : Persistent) :
    (smoothCurGain p c).pastFrameType = c.pastFrameType := by unfold smoothCurGain; split <;> rfl
@[simp] theorem smoothCurGain_curRate (p : Params) (c : Persistent) :
    (smoothCurGain p c).curRate = c.curRate := by unfold smoothCurGain; split <;> rfl
@[simp] theorem smoothCurGain_prevExcitation (p : Params) (c : Persistent) :
    (smoothCurGain p c).prevExcitation = c.prevExcitation := by unfold smoothCurGain; split <;> rfl
@[simp] theorem smoothCurGain_synthMem (p : Params) (c : Persistent) :
    (smoothCurGain p c).synthMem = c.synthMem := by unfold smoothCurGain; split <;> rfl
@[simp] theorem smoothCurGain_firMem (p : Params) (c : Persistent) :
    (smoothCurGain p c).firMem = c.firMem := by unfold smoothCurGain; split <;> rfl
@[simp] theorem smoothCurGain_iirMem (p : Params) (c : Persistent) :
    (smoothCurGain p c).iirMem = c.iirMem := by unfold smoothCurGain; split <;> rfl
@[simp] theorem smoothCurGain_pitchLag (p : Params) (c : Persistent) :
    (smoothCurGain p c).pitchLag = c.pitchLag := by unfold smoothCurGain; split <;> rfl
@[simp] theorem smoothCurGain_subframe (p : Params) (c : Persistent) :
    (smoothCurGain p c).subframe = c.subframe := by unfold smoothCurGain; split <;> rfl
@[simp] theorem smoothCurGain_lspIndex (p : Params) (c : Persistent) :
    (smoothCurGain p c).lspIndex = c.lspIndex := by unfold smoothCurGain; split <;> rfl
@[simp] theorem smoothCurGain_erasedFrames (p : Params) (c : Persistent) :
    (smoothCurGain p c).erasedFrames = c.erasedFrames := by unfold smoothCurGain; split <;> rfl
@[simp] theorem smoothCurGain_interpGain (p : Params) (c : Persistent) :
    (smoothCurGain p c).interpGain = c.interpGain := by unfold smoothCurGain; split <;> rfl
@[simp] theorem smoothCurGain_interpIndex (p : Params) (c : Persistent) :
    (smoothCurGain p c).interpIndex = c.interpIndex := by unfold smoothCurGain; split <;> rfl
@[simp] theorem smoothCurGain_sidGain (p : Params) (c : Persistent) :
    (smoothCurGain p c).sidGain = c.sidGain := by unfold smoothCurGain; split <;> rfl
@[simp] theorem smoothCurGain_reflectionCoef (p : Params) (c : Persistent) :
    (smoothCurGain p c).reflectionCoef = c.reflectionCoef := by unfold smoothCurGain; split <;> rfl
@[simp] theorem smoothCurGain_pfGain (p : Params) (c : Persistent) :
    (smoothCurGain p c).pfGain = c.pfGain := by unfold smoothCurGain; split <;> rfl
@[simp] theorem smoothCurGain_randomSeed (p : Params) (c : Persistent) :
    (smoothCurGain p c).randomSeed = c.randomSeed := by unfold smoothCurGain; split <;> rfl
@[simp] theorem smoothCurGain_cngRandomSeed (p : Params) (c : Persistent) :
    (smoothCurGain p c).cngRandomSeed = c.cngRandomSeed := by unfold smoothCurGain; split <;> rfl
@[simp] theorem smoothCurGain_postfilter (p : Params) (c : Persistent) :
    (smoothCurGain p c).postfilter = c.postfilter := by unfold smoothCurGain; split <;> rfl

/-! ### `sidUpdate` -/

@[simp] theorem sidUpdate_prevLsp (p : Params) (c : Persistent) :
    (sidUpdate p c).prevLsp = c.prevLsp := by unfold sidUpdate; split <;> [rfl; (split <;> rfl); rfl]
@[simp] theorem sidUpdate_curFrameType (p : Params) (c : Persistent) :
    (sidUpdate p c).curFrameType = c.curFrameType := by unfold sidUpdate; split <;> [rfl; (split <;> rfl); rfl]
@[simp] theorem sidUpdate_pastFrameType (p : Params) (c : Persistent) :
    (sidUpdate p c).pastFrameType = c.pastFrameType := by unfold sidUpdate; split <;> [rfl; (split <;> rfl); rfl]
@[simp] theorem sidUpdate_curRate (p : Params) (c : Persistent) :
    (sidUpdate p c).curRate = c.curRate := by unfold sidUpdate; split <;> [rfl; (split <;> rfl); rfl]
@[simp] theorem sidUpdate_prevExcitation (p : Params) (c : Persistent) :
    (sidUpdate p c).prevExcitation = c.prevExcitation := by unfold sidUpdate; split <;> [rfl; (split <;> rfl); rfl]
@[simp] theorem sidUpdate_synthMem (p : Params) (c : Persistent) :
    (sidUpdate p c).synthMem = c.synthMem := by unfold sidUpdate; split <;> [rfl; (split <;> rfl); rfl]
@[simp] theorem sidUpdate_firMem (p : Params) (c : Persistent) :
    (sidUpdate p c).firMem = c.firMem := by unfold sidUpdate; split <;> [rfl; (split <;> rfl); rfl]
@[simp] theorem sidUpdate_iirMem (p : Params) (c : Persistent) :
    (sidUpdate p c).iirMem = c.iirMem := by unfold sidUpdate; split <;> [rfl; (split <;> rfl); rfl]
@[simp] theorem sidUpdate_pitchLag (p : Params) (c : Persistent) :
    (sidUpdate p c).pitchLag = c.pitchLag := by unfold sidUpdate; split <;> [rfl; (split <;> rfl); rfl]
@[simp] theorem sidUpdate_subframe (p : Params) (c : Persistent) :
    (sidUpdate p c).subframe = c.subframe := by unfold sidUpdate; split <;> [rfl; (split <;> rfl); rfl]
@[simp] theorem sidUpdate_lspIndex (p : Params) (c : Persistent) :
    (sidUpdate p c).lspIndex = c.lspIndex := by unfold sidUpdate; split <;> [rfl; (split <;> rfl); rfl]
@[simp] theorem sidUpdate_erasedFrames (p : Params) (c : Persistent) :
    (sidUpdate p c).erasedFrames = c.erasedFrames := by unfold sidUpdate; split <;> [rfl; (split <;> rfl); rfl]
@[simp] theorem sidUpdate_interpGain (p : Params) (c : Persistent) :
    (sidUpdate p c).interpGain = c.interpGain := by unfold sidUpdate; split <;> [rfl; (split <;> rfl); rfl]
@[simp] theorem sidUpdate_interpIndex (p : Params) (c : Persistent) :
    (sidUpdate p c).interpIndex = c.interpIndex := by unfold sidUpdate; split <;> [rfl; (split <;> rfl); rfl]
@[simp] theorem sidUpdate_curGain (p : Params) (c : Persistent) :
    (sidUpdate p c).curGain = c.curGain := by unfold sidUpdate; split <;> [rfl; (split <;> rfl); rfl]
@[simp] theorem sidUpdate_reflectionCoef (p : Params) (c : Persistent) :
    (sidUpdate p c).reflectionCoef = c.reflectionCoef := by unfold sidUpdate; split <;> [rfl; (split <;> rfl); rfl]
@[simp] theorem sidUpdate_pfGain (p : Params) (c : Persistent) :
    (sidUpdate p c).pfGain = c.pfGain := by unfold sidUpdate; split <;> [rfl; (split <;> rfl); rfl]
@[simp] theorem sidUpdate_randomSeed (p : Params) (c : Persistent) :
    (sidUpdate p c).randomSeed = c.randomSeed := by unfold sidUpdate; split <;> [rfl; (split <;> rfl); rfl]
@[simp] theorem sidUpdate_cngRandomSeed (p : Params) (c : Persistent) :
    (sidUpdate p c).cngRandomSeed = c.cngRandomSeed := by unfold sidUpdate; split <;> [rfl; (split <;> rfl); rfl]
@[simp] theorem sidUpdate_postfilter (p : Params) (c : Persistent) :
    (sidUpdate p c).postfilter = c.postfilter := by unfold sidUpdate; split <;> [rfl; (split <;> rfl); rfl]

/-! ### `writeDraws` -/

@[simp] theorem writeDraws_prevLsp (p : Params) (d : NoiseDraws) (c : Persistent) :
    (writeDraws p d c).prevLsp = c.prevLsp := by simp [writeDraws]
@[simp] theorem writeDraws_sidLsp (p : Params) (d : NoiseDraws) (c : Persistent) :
    (writeDraws p d c).sidLsp = c.sidLsp := by simp [writeDraws]
@[simp] theorem writeDraws_curFrameType (p : Params) (d : NoiseDraws) (c : Persistent) :
    (writeDraws p d c).curFrameType = c.curFrameType := by simp [writeDraws]
@[simp] theorem writeDraws_pastFrameType (p : Params) (d : NoiseDraws) (c : Persistent) :
    (writeDraws p d c).pastFrameType = c.pastFrameType := by simp [writeDraws]
@[simp] theorem writeDraws_curRate (p : Params) (d : NoiseDraws) (c : Persistent) :
    (writeDraws p d c).curRate = c.curRate := by simp [writeDraws]
@[simp] theorem writeDraws_prevExcitation (p : Params) (d : NoiseDraws) (c : Persistent) :
    (writeDraws p d c).prevExcitation = c.prevExcitation := by simp [writeDraws]
@[simp] theorem writeDraws_synthMem (p : Params) (d : NoiseDraws) (c : Persistent) :
    (writeDraws p d c).synthMem = c.synthMem := by simp [writeDraws]
@[simp] theorem writeDraws_firMem (p : Params) (d : NoiseDraws) (c : Persistent) :
    (writeDraws p d c).firMem = c.firMem := by simp [writeDraws]
@[simp] theorem writeDraws_iirMem (p : Params) (d : NoiseDraws) (c : Persistent) :
    (writeDraws p d c).iirMem = c.iirMem := by simp [writeDraws]
@[simp] theorem writeDraws_pitchLag (p : Params) (d : NoiseDraws) (c : Persistent) :
    (writeDraws p d c).pitchLag = #v[BitVec.ofNat 8 d.lag0, BitVec.ofNat 8 d.lag1] := by simp [writeDraws]
@[simp] theorem writeDraws_lspIndex (p : Params) (d : NoiseDraws) (c : Persistent) :
    (writeDraws p d c).lspIndex = c.lspIndex := by simp [writeDraws]
@[simp] theorem writeDraws_erasedFrames (p : Params) (d : NoiseDraws) (c : Persistent) :
    (writeDraws p d c).erasedFrames = c.erasedFrames := by simp [writeDraws]
@[simp] theorem writeDraws_interpGain (p : Params) (d : NoiseDraws) (c : Persistent) :
    (writeDraws p d c).interpGain = c.interpGain := by simp [writeDraws]
@[simp] theorem writeDraws_interpIndex (p : Params) (d : NoiseDraws) (c : Persistent) :
    (writeDraws p d c).interpIndex = c.interpIndex := by simp [writeDraws]
@[simp] theorem writeDraws_sidGain (p : Params) (d : NoiseDraws) (c : Persistent) :
    (writeDraws p d c).sidGain = c.sidGain := by simp [writeDraws]
@[simp] theorem writeDraws_curGain (p : Params) (d : NoiseDraws) (c : Persistent) :
    (writeDraws p d c).curGain = c.curGain := by simp [writeDraws]
@[simp] theorem writeDraws_reflectionCoef (p : Params) (d : NoiseDraws) (c : Persistent) :
    (writeDraws p d c).reflectionCoef = c.reflectionCoef := by simp [writeDraws]
@[simp] theorem writeDraws_pfGain (p : Params) (d : NoiseDraws) (c : Persistent) :
    (writeDraws p d c).pfGain = c.pfGain := by simp [writeDraws]
@[simp] theorem writeDraws_randomSeed (p : Params) (d : NoiseDraws) (c : Persistent) :
    (writeDraws p d c).randomSeed = c.randomSeed := by simp [writeDraws]
@[simp] theorem writeDraws_cngRandomSeed (p : Params) (d : NoiseDraws) (c : Persistent) :
    (writeDraws p d c).cngRandomSeed = d.seed := by simp [writeDraws]
@[simp] theorem writeDraws_postfilter (p : Params) (d : NoiseDraws) (c : Persistent) :
    (writeDraws p d c).postfilter = c.postfilter := by simp [writeDraws]

/-! ### The machine state -/

@[simp] theorem raiseShortFrame_core (s : State) : (raiseShortFrame s).core = s.core := rfl
@[simp] theorem raiseShortFrame_params (s : State) : (raiseShortFrame s).params = s.params := rfl
@[simp] theorem raiseShortFrame_pending (s : State) : (raiseShortFrame s).pending = s.pending := rfl
@[simp] theorem raiseShortFrame_readData (s : State) : (raiseShortFrame s).readData = s.readData := rfl
@[simp] theorem raiseShortFrame_inLen (s : State) : (raiseShortFrame s).regs.inLen = s.regs.inLen := rfl
@[simp] theorem raiseShortFrame_inBytes (s : State) : (raiseShortFrame s).regs.inBytes = s.regs.inBytes := rfl
@[simp] theorem raiseShortFrame_err (s : State) : (raiseShortFrame s).regs.err = .shortFrame := rfl
@[simp] theorem raiseShortFrame_bad (s : State) : (raiseShortFrame s).regs.bad = false := rfl
@[simp] theorem raiseShortFrame_consumed (s : State) : (raiseShortFrame s).regs.consumed = s.regs.inLen := rfl
@[simp] theorem raiseShortFrame_samples (s : State) : (raiseShortFrame s).regs.samples = 0 := rfl
@[simp] theorem raiseShortFrame_out (s : State) : (raiseShortFrame s).regs.out = s.regs.out := rfl
@[simp] theorem raiseBadCommand_core (s : State) : (raiseBadCommand s).core = s.core := rfl
@[simp] theorem raiseBadCommand_params (s : State) : (raiseBadCommand s).params = s.params := rfl
@[simp] theorem raiseBadCommand_pending (s : State) : (raiseBadCommand s).pending = s.pending := rfl
@[simp] theorem raiseBadCommand_readData (s : State) : (raiseBadCommand s).readData = s.readData := rfl
@[simp] theorem raiseBadCommand_inLen (s : State) : (raiseBadCommand s).regs.inLen = s.regs.inLen := rfl
@[simp] theorem raiseBadCommand_inBytes (s : State) : (raiseBadCommand s).regs.inBytes = s.regs.inBytes := rfl
@[simp] theorem raiseBadCommand_err (s : State) : (raiseBadCommand s).regs.err = .badCommand := rfl
@[simp] theorem raiseBadCommand_bad (s : State) : (raiseBadCommand s).regs.bad = s.regs.bad := rfl
@[simp] theorem raiseBadCommand_consumed (s : State) : (raiseBadCommand s).regs.consumed = s.regs.consumed := rfl
@[simp] theorem raiseBadCommand_samples (s : State) : (raiseBadCommand s).regs.samples = s.regs.samples := rfl
@[simp] theorem raiseBadCommand_out (s : State) : (raiseBadCommand s).regs.out = s.regs.out := rfl
@[simp] theorem reportDecode_inLen (k : Nat) (b : Bool) (o : Vector I16 240) (r : HostRegs) :
    (reportDecode k b o r).inLen = r.inLen := rfl
@[simp] theorem reportDecode_inBytes (k : Nat) (b : Bool) (o : Vector I16 240) (r : HostRegs) :
    (reportDecode k b o r).inBytes = r.inBytes := rfl
@[simp] theorem reportDecode_err (k : Nat) (b : Bool) (o : Vector I16 240) (r : HostRegs) :
    (reportDecode k b o r).err = .ok := rfl
@[simp] theorem reportDecode_bad (k : Nat) (b : Bool) (o : Vector I16 240) (r : HostRegs) :
    (reportDecode k b o r).bad = b := rfl
@[simp] theorem reportDecode_consumed (k : Nat) (b : Bool) (o : Vector I16 240) (r : HostRegs) :
    (reportDecode k b o r).consumed = BitVec.ofNat 8 k := rfl
@[simp] theorem reportDecode_samples (k : Nat) (b : Bool) (o : Vector I16 240) (r : HostRegs) :
    (reportDecode k b o r).samples = 240 := rfl
@[simp] theorem reportDecode_out (k : Nat) (b : Bool) (o : Vector I16 240) (r : HostRegs) :
    (reportDecode k b o r).out = o := rfl
@[simp] theorem storeByte_params (s : State) (a : Nat) (v : Byte) : (storeByte s a v).params = s.params := by
  unfold storeByte; split <;> [rfl; (split <;> [rfl; (split <;> rfl)])]
@[simp] theorem storeByte_pending (s : State) (a : Nat) (v : Byte) : (storeByte s a v).pending = s.pending := by
  unfold storeByte; split <;> [rfl; (split <;> [rfl; (split <;> rfl)])]
@[simp] theorem storeByte_readData (s : State) (a : Nat) (v : Byte) : (storeByte s a v).readData = s.readData := by
  unfold storeByte; split <;> [rfl; (split <;> [rfl; (split <;> rfl)])]
@[simp] theorem aboutToCommand_core (s : State) (v : Byte) : (aboutToCommand s v).core = s.core := rfl
@[simp] theorem aboutToCommand_params (s : State) (v : Byte) : (aboutToCommand s v).params = s.params := rfl
@[simp] theorem aboutToCommand_readData (s : State) (v : Byte) : (aboutToCommand s v).readData = s.readData := rfl
@[simp] theorem aboutToCommand_regs (s : State) (v : Byte) : (aboutToCommand s v).regs = s.regs := rfl
@[simp] theorem aboutToCommand_pending (s : State) (v : Byte) :
    (aboutToCommand s v).pending = .write 0 .one (v.setWidth 32) :: s.pending := rfl

end Sys2Proof.Machine
end

