-- ==== Sys2Proof/Laws/Ops.lean ====
section
/-! SUPPORT. One lemma per shared operation that says once everything it can do, for later proofs to cite instead of unfolding it. -/

namespace Sys2Proof.Machine

/-! ### Computations that may fault -/

/-- A sequence gives a value exactly where both parts do. -/
theorem bind_eq_ok {ε α β : Type} {x : Except ε α} {f : α → Except ε β} {b : β} :
    (x >>= f) = .ok b ↔ ∃ a, x = .ok a ∧ f a = .ok b := by
  cases x with
  | ok a => exact Iff.intro (fun h => ⟨a, rfl, h⟩) (by rintro ⟨_, h, h'⟩; cases h; exact h')
  | error e => exact Iff.intro (fun h => nomatch h) (by rintro ⟨_, h, _⟩; cases h)

/-- A sequence faults where its first part does, or where that goes on and the second does. -/
theorem bind_eq_error {ε α β : Type} {x : Except ε α} {f : α → Except ε β} {e : ε} :
    (x >>= f) = .error e ↔ x = .error e ∨ ∃ a, x = .ok a ∧ f a = .error e := by
  cases x with
  | ok a => exact Iff.intro (fun h => .inr ⟨a, rfl, h⟩) (by rintro (h | ⟨_, h, h'⟩) <;> cases h; exact h')
  | error d => exact Iff.intro (fun h => .inl (by cases h; rfl)) (by rintro (h | ⟨_, h, _⟩) <;> cases h; rfl)

/-- R405, R406: a computation ends a step with its state or its fault, and never with a refusal. -/
theorem toOutcome_eq_next {x : Except Fault State} {t : State} : toOutcome x = .next t ↔ x = .ok t := by
  cases x <;> simp [toOutcome]

theorem toOutcome_eq_fault {x : Except Fault State} {e : Fault} : toOutcome x = .fault e ↔ x = .error e := by
  cases x <;> simp [toOutcome]

theorem toOutcome_ne_refused (x : Except Fault State) (r : Refusal) : toOutcome x ≠ .refused r := by
  cases x <;> simp [toOutcome]

/-- R82: a ROM read inside the table gives its element. -/
theorem romRead_of_lt {w n : Nat} (table : Vector (BitVec w) n) {i : Nat} (h : i < n) : romRead table i = .ok (rd table i) := by
  simp [romRead, rd, cell, h]

/-- R82: a ROM read outside the table faults. -/
theorem romRead_of_ge {w n : Nat} (table : Vector (BitVec w) n) {i : Nat} (h : n ≤ i) :
    romRead table i = .error .romIndexFault := by simp [romRead, Nat.not_lt.mpr h]

/-- The only fault of a ROM read. -/
theorem romRead_error {w n : Nat} {table : Vector (BitVec w) n} {i : Nat} {e : Fault} (h : romRead table i = .error e) :
    e = .romIndexFault := by
  unfold romRead at h
  split at h <;> cases h
  rfl

/-! ### The window and the status errors -/

/-- R71, R75: a byte of the window written by the host is `CONFIG`, `IN_LEN`, a byte of `IN_BYTES`, or nothing. -/
theorem storeByte_cases (s : State) (a : Nat) (v : Byte) :
    (a = 0x001 ∧ storeByte s a v = { s with core := { s.core with postfilter := v.getLsbD 0 } })
      ∨ (a = 0x002 ∧ storeByte s a v = { s with regs := { s.regs with inLen := v } })
      ∨ (0x020 ≤ a ∧ a < 0x038
          ∧ storeByte s a v = { s with regs := { s.regs with inBytes := s.regs.inBytes.setIfInBounds (a - 0x020) v } })
      ∨ (a ≠ 0x001 ∧ a ≠ 0x002 ∧ ¬(0x020 ≤ a ∧ a < 0x038) ∧ storeByte s a v = s) := by
  unfold storeByte
  by_cases h1 : a = 0x001
  · exact .inl ⟨h1, by rw [if_pos h1]⟩
  · by_cases h2 : a = 0x002
    · exact .inr (.inl ⟨h2, by rw [if_neg h1, if_pos h2]⟩)
    · by_cases h3 : 0x020 ≤ a ∧ a < 0x038
      · exact .inr (.inr (.inl ⟨h3.1, h3.2, by rw [if_neg h1, if_neg h2, if_pos h3]⟩))
      · exact .inr (.inr (.inr ⟨h1, h2, h3, by rw [if_neg h1, if_neg h2, if_neg h3]⟩))

/-- The bytes of a number are the bytes read. -/
theorem bytesToNat_lt (bs : List Byte) : bytesToNat bs < 256 ^ bs.length := by
  induction bs with
  | nil => simp [bytesToNat]
  | cons b bs ih => simp only [bytesToNat, List.length_cons, pow_succ]; have := b.isLt; omega

/-! ### The unpacker -/

/-- R178: a gain word writes its Dirac bit, and then either fails or writes both indices. -/
theorem unpackGain_cases (c : Persistent) (i : Nat) (t : BitVec 12) :
    ((gainOperand c.curRate (lagOf c i) t).tableLen ≤ (gainOperand c.curRate (lagOf c i) t).gain
        ∧ unpackGain c i t = .error (setSubframe c i fun sf =>
            { sf with diracTrain := (gainOperand c.curRate (lagOf c i) t).diracTrain }))
      ∨ ((gainOperand c.curRate (lagOf c i) t).gain < (gainOperand c.curRate (lagOf c i) t).tableLen
        ∧ unpackGain c i t = .ok (setSubframe (setSubframe c i fun sf =>
            { sf with diracTrain := (gainOperand c.curRate (lagOf c i) t).diracTrain }) i fun sf =>
            { sf with
              adCbGain := BitVec.ofNat 8 (gainOperand c.curRate (lagOf c i) t).gain
              ampIndex := BitVec.ofNat 6 (gainOperand c.curRate (lagOf c i) t).amp })) := by
  unfold unpackGain
  by_cases h : (gainOperand c.curRate (lagOf c i) t).tableLen ≤ (gainOperand c.curRate (lagOf c i) t).gain
  · exact .inl ⟨h, if_pos h⟩
  · exact .inr ⟨Nat.lt_of_not_le h, if_neg h⟩

/-- R186: a frame whose unpacking succeeded keeps its type; a bad one becomes ACTIVE after an ACTIVE frame, else UNTRANSMITTED. -/
theorem remapped_cases (u : Unpacked) :
    (∃ c, u = .ok c ∧ badFrame u = false ∧ remapped u = c)
      ∨ (∃ c, u = .error c ∧ badFrame u = true ∧ c.pastFrameType = .active ∧ remapped u = { c with curFrameType := .active })
      ∨ (∃ c, u = .error c ∧ badFrame u = true ∧ c.pastFrameType ≠ .active
          ∧ remapped u = { c with curFrameType := .untransmitted }) := by
  cases u with
  | ok c => exact .inl ⟨c, rfl, rfl, rfl⟩
  | error c =>
    by_cases h : c.pastFrameType = .active
    · exact .inr (.inl ⟨c, rfl, rfl, h, by simp [remapped, remap, h]⟩)
    · exact .inr (.inr ⟨c, rfl, rfl, h, by simp [remapped, remap, h]⟩)

/-! ### Codebooks -/

/-- R238–R240: the adaptive codebook stops on a lag outside the history, or reads five taps. -/
theorem adaptiveCodebook_cases (rom : Rom) (rate : Rate) (e : ExcBuf) (base lag : Nat) (sf : Subframe) :
    ((acbLag lag sf < 1 ∨ 144 < acbLag lag sf) ∧ adaptiveCodebook rom rate e base lag sf = .error .scratchIndexFault)
      ∨ (1 ≤ acbLag lag sf ∧ acbLag lag sf ≤ 144
        ∧ ((∃ d, acbTaps rom rate lag sf = .error d ∧ adaptiveCodebook rom rate e base lag sf = .error d)
          ∨ ∃ taps, acbTaps rom rate lag sf = .ok taps
            ∧ adaptiveCodebook rom rate e base lag sf = .ok (acbOutput e base (acbLag lag sf).toNat taps))) := by
  unfold adaptiveCodebook
  by_cases h : acbLag lag sf < 1 ∨ 144 < acbLag lag sf
  · exact .inl ⟨h, if_pos h⟩
  · refine .inr ⟨by omega, by omega, ?_⟩
    rw [if_neg h]
    cases ht : acbTaps rom rate lag sf with
    | error d => exact .inl ⟨d, rfl, rfl⟩
    | ok taps => exact .inr ⟨taps, rfl, rfl⟩

/-- R239: the taps of a gain index inside its table, and of no other. -/
theorem acbTap_of_gain (rom : Rom) (rate : Rate) (lag : Nat) (sf : Subframe) {k : Nat} (hk : k < 5)
    (h : sf.adCbGain.toNat < if rate = .r6300 ∧ lag < subframeLen - 2 then 85 else 170) :
    ∃ x, acbTap rom rate lag sf k = .ok x := by
  unfold acbTap
  split <;> rename_i hs
  · rw [if_pos hs] at h; exact ⟨_, romRead_of_lt _ (by omega)⟩
  · rw [if_neg hs] at h; exact ⟨_, romRead_of_lt _ (by omega)⟩

/-! ### Concealment -/

/-- R277–R279: an erased frame repeats the history, or draws noise, or stops on a lag outside the history. -/
theorem concealResidual_cases (c : Persistent) :
    (c.interpIndex.toInt = 0
        ∧ concealResidual c
          = .ok (handOff { c with randomSeed := (unvoicedResidual c.interpGain.toInt c.randomSeed).1 }
              (unvoicedResidual c.interpGain.toInt c.randomSeed).2, (unvoicedResidual c.interpGain.toInt c.randomSeed).2))
      ∨ ((c.interpIndex.toInt < 0 ∨ 146 < c.interpIndex.toInt) ∧ concealResidual c = .error .scratchIndexFault)
      ∨ (1 ≤ c.interpIndex.toInt ∧ c.interpIndex.toInt ≤ 146
        ∧ concealResidual c
          = .ok (handOff c (voicedResidual c.prevExcitation c.interpIndex.toInt.toNat),
              voicedResidual c.prevExcitation c.interpIndex.toInt.toNat)) := by
  unfold concealResidual
  by_cases h : c.interpIndex.toInt = 0
  · exact .inl ⟨h, if_pos h⟩
  · by_cases h' : c.interpIndex.toInt < 0 ∨ 146 < c.interpIndex.toInt
    · exact .inr (.inl ⟨h', by simp only [if_neg h, if_pos h']⟩)
    · exact .inr (.inr ⟨by omega, by omega, by simp only [if_neg h, if_neg h']⟩)

/-! ### The whole decode -/

/-- R370–R381: a decode reports ShortFrame, or stops with the fault of its rules, or produces samples. -/
theorem runFrame_cases (size : Nat) (unpack : Persistent → Unpacked) (s : State) :
    (s.regs.inLen.toNat < size ∧ runFrame size unpack s = .ok (raiseShortFrame s))
      ∨ (size ≤ s.regs.inLen.toNat
        ∧ ((∃ e, decodeUnpacked s.params (unpack s.core) = .error e ∧ runFrame size unpack s = .error e)
          ∨ ∃ c out, decodeUnpacked s.params (unpack s.core) = .ok (c, out)
            ∧ runFrame size unpack s
              = .ok { s with core := c, regs := reportDecode size (badFrame (unpack s.core)) out s.regs })) := by
  unfold runFrame isShort
  by_cases h : s.regs.inLen.toNat < size
  · exact .inl ⟨h, by simp only [decide_eq_true h, if_true]⟩
  · refine .inr ⟨by omega, ?_⟩
    simp only [decide_eq_false h, Bool.false_eq_true, if_false]
    cases hd : decodeUnpacked s.params (unpack s.core) with
    | error e => exact .inl ⟨e, rfl, rfl⟩
    | ok r => exact .inr ⟨r.1, r.2, rfl, rfl⟩

/-- R370 steps 2 to 6: what a decode that produces samples ran. -/
theorem decodeUnpacked_ok {p : Params} {u : Unpacked} {r : Persistent × Vector I16 240} (h : decodeUnpacked p u = .ok r) :
    ∃ j, decodeByType p (badFrame u) (remapped u) = .ok j ∧ r = finish p j := by
  obtain ⟨j, hj, h⟩ := bind_eq_ok.mp h
  exact ⟨j, hj, by cases h; rfl⟩

/-- R370 step 3: the parts of an ACTIVE decode. -/
theorem decodeActive_ok {p : Params} {bad : Bool} {c : Persistent} {j : SynthesisJob} (h : decodeActive p bad c = .ok j) :
    ∃ lpc r, lspInterp p.rom.cosTab (activeLsp p (countErasure bad c) bad) (countErasure bad c).prevLsp = .ok lpc
      ∧ activeExcitation p { countErasure bad c with prevLsp := activeLsp p (countErasure bad c) bad } = .ok r
      ∧ j = { core := resetCngSeed r.1, lpc := lpc, input := r.2 } := by
  obtain ⟨lpc, hl, h⟩ := bind_eq_ok.mp h
  obtain ⟨r, hr, h⟩ := bind_eq_ok.mp h
  exact ⟨lpc, r, hl, hr, by cases h; rfl⟩

/-- R370 step 4: the parts of a comfort-noise decode. -/
theorem decodeNoise_ok {p : Params} {c : Persistent} {j : SynthesisJob} (h : decodeNoise p c = .ok j) :
    ∃ r lpc, generateNoise p (smoothCurGain p (sidUpdate p c)) = .ok r ∧ lspInterp p.rom.cosTab r.1.sidLsp r.1.prevLsp = .ok lpc
      ∧ j = { core := { r.1 with prevLsp := r.1.sidLsp }, lpc := lpc, input := r.2 } := by
  obtain ⟨r, hr, h⟩ := bind_eq_ok.mp h
  obtain ⟨lpc, hl, h⟩ := bind_eq_ok.mp h
  exact ⟨r, lpc, hr, hl, by cases h; rfl⟩

/-- R350–R356: the parts of a comfort-noise excitation. -/
theorem generateNoise_ok {p : Params} {c : Persistent} {r : Persistent × Vector I16 240} (h : generateNoise p c = .ok r) :
    ∃ e0 e, noisePair p (writeDraws p (noiseDraws c.cngRandomSeed) c)
          (historyHead (writeDraws p (noiseDraws c.cngRandomSeed) c).prevExcitation) 0 (noiseDraws c.cngRandomSeed).pos0
          (noiseDraws c.cngRandomSeed).sign0 = .ok e0
      ∧ noisePair p (writeDraws p (noiseDraws c.cngRandomSeed) c) e0 1 (noiseDraws c.cngRandomSeed).pos1
          (noiseDraws c.cngRandomSeed).sign1 = .ok e
      ∧ r = ({ writeDraws p (noiseDraws c.cngRandomSeed) c with prevExcitation := slice e 240 146 }, slice e 146 240) := by
  obtain ⟨e0, h0, h⟩ := bind_eq_ok.mp h
  obtain ⟨e, he, h⟩ := bind_eq_ok.mp h
  exact ⟨e0, e, h0, he, by cases h; rfl⟩

/-! ### Host accesses -/

/-- R78: a step with an access pending performs it, on the state without it. -/
theorem step_of_pending {s : State} {a : HostAccess} {rest : List HostAccess} (h : s.pending = a :: rest) :
    step s = hostAccess { s with pending := rest } a := by
  unfold step hostStep
  rw [h]

/-- R75, R120: a byte written to the window runs a command, stores, or lies outside. -/
theorem writeByte_cases (s : State) (a : Nat) (v : Byte) :
    (a = 0 ∧ writeByte s a v = runCommand v s) ∨ (a ≠ 0 ∧ a < 0x300 ∧ writeByte s a v = .next (storeByte s a v))
      ∨ (0x300 ≤ a ∧ writeByte s a v = .fault .outsideWindow) := by
  unfold writeByte inWindow
  by_cases h : a < 0x300
  · by_cases h0 : a = 0
    · exact .inl ⟨h0, by simp only [decide_eq_true h, if_true, if_pos h0]⟩
    · exact .inr (.inl ⟨h0, h, by simp only [decide_eq_true h, if_true, if_neg h0]⟩)
  · exact .inr (.inr ⟨by omega, by simp only [decide_eq_false h, Bool.false_eq_true, if_false]⟩)

/-- R120, R403: a command byte runs one of three commands, or is BadCommand. -/
theorem runCommand_cases (v : Byte) (s : State) :
    (v = 0 ∧ runCommand v s = exec .nop s) ∨ (v = 1 ∧ runCommand v s = exec .reset s) ∨ (v = 2 ∧ runCommand v s = exec .decode s)
      ∨ (v ≠ 0 ∧ v ≠ 1 ∧ v ≠ 2 ∧ runCommand v s = .next (raiseBadCommand s)) := by
  unfold runCommand decodeCommand
  by_cases h0 : v = 0
  · exact .inl ⟨h0, by rw [if_pos h0]⟩
  · by_cases h1 : v = 1
    · exact .inr (.inl ⟨h1, by rw [if_neg h0, if_pos h1]⟩)
    · by_cases h2 : v = 2
      · exact .inr (.inr (.inl ⟨h2, by rw [if_neg h0, if_neg h1, if_pos h2]⟩))
      · exact .inr (.inr (.inr ⟨h0, h1, h2, by rw [if_neg h0, if_neg h1, if_neg h2]⟩))

end Sys2Proof.Machine
end

