-- ==== Sys2Proof/Laws/PerInstr.lean ====
section
/-! SUPPORT. Facts about every instruction as syntax, one lemma per constructor. -/

namespace Sys2Proof.Laws

/-- `natToBytes` gives as many bytes as asked. -/
theorem natToBytes_length (n w : Nat) : (natToBytes n w).length = n := by
  induction n generalizing w with
  | zero => rfl
  | succ n ih => simp [natToBytes, ih]

namespace EncodedLength

/-- An instruction's encoding has exactly its size in bytes (30_encoding.md R101, R120). -/
def Statement (i : Instr) : Prop := (encode i).length = i.size

theorem nop : Statement .nop := rfl
theorem reset : Statement .reset := rfl
theorem decode : Statement .decode := rfl
theorem frame63 (f : Frame63) : Statement (.frame63 f) := natToBytes_length 24 _
theorem frame53 (f : Frame53) : Statement (.frame53 f) := natToBytes_length 20 _
theorem sid (f : SidFrame) : Statement (.sid f) := natToBytes_length 4 _
theorem untx (b : BitVec 6) : Statement (.untx b) := natToBytes_length 1 _

end EncodedLength

end Sys2Proof.Laws
end

