-- ==== Sys2Proof/Tests/Slice0.lean ====
section
/-! SUPPORT. Named tests: ill-formed terms, words written out from the spec, vectors of 95_test_vectors.md, and a witness for the
hypotheses of every statement that has some. The test ROM is zero but where a test says otherwise. -/

set_option maxRecDepth 100000
set_option Elab.async false

namespace Sys2Proof.Tests

open Sys2Proof.Machine

/-! ### Helpers -/

/-- LSP values 0x400 apart, as in V-LSP-5. -/
def ramp : Vector I16 10 := Vector.ofFn fun i => BitVec.ofNat 16 (0x400 * (i.val + 1))

/-- A ROM of zeros with a cosine table of the default length. -/
def rom0 : Rom where
  lspBand0 := Vector.replicate 256 (Vector.replicate 3 0)
  lspBand1 := Vector.replicate 256 (Vector.replicate 3 0)
  lspBand2 := Vector.replicate 256 (Vector.replicate 4 0)
  dcLsp := Vector.replicate 10 0
  cosTab := { len := 256, entries := Vector.replicate 256 0 }
  fixedCbGain := Vector.replicate 24 0
  adaptiveCbGain85 := Vector.replicate 1700 0
  adaptiveCbGain170 := Vector.replicate 3400 0
  pitchContrib := Vector.replicate 340 0
  postfilterFir := Vector.replicate 10 0
  postfilterIir := Vector.replicate 10 0
  cngFilt := Vector.replicate 4 0
  cngBseg := Vector.replicate 3 0

/-- Power-on with that ROM, LSP vectors inside the cosine table, and `IN_LEN` 24. -/
def state0 : State :=
  let s := State.powerOn { Config.resetParams with rom := rom0 }
  { s with core := { s.core with prevLsp := ramp, sidLsp := ramp }, regs := { s.regs with inLen := 24 } }

/-- `state0` after an ACTIVE frame and two erasures. -/
def state1 : State :=
  { state0 with
    core := { state0.core with pastFrameType := .active, curFrameType := .active, interpIndex := 40, erasedFrames := 2 } }

/-- `s` with one erasure counted. -/
def erasedOnce (s : State) : State := { s with core := { s.core with erasedFrames := 1 } }

/-- `s` with the post-filter off. -/
def plain (s : State) : State := { s with core := { s.core with postfilter := false } }

/-- `s` with bytes in `IN_BYTES`, the rest 0. -/
def withBytes (s : State) (bytes : List Byte) : State :=
  { s with regs := { s.regs with inBytes := Vector.ofFn fun i => bytes.getD i.val 0 } }

/-- `s` with one pending access. -/
def about (s : State) (a : HostAccess) : State := { s with pending := [a] }

/-- `s` with the cosine table cut to two entries. -/
def shortTable (s : State) : State :=
  { s with params := { s.params with rom := { rom0 with cosTab := { len := 2, entries := Vector.replicate 2 0 } } } }

/-- `s` where `CNG_GAIN_RESET` is 1. -/
def gainReset (s : State) : State := { s with params := { s.params with cngGainReset := true } }

/-- The step went on, to a state with the property. -/
def goesOn (o : Host.Outcome State Fault Refusal) (p : State → Bool) : Bool :=
  match o with
  | .next t => p t
  | .fault _ => false
  | .refused _ => false

/-- The step stopped with the fault. -/
def stopsWith (o : Host.Outcome State Fault Refusal) (e : Fault) : Bool :=
  match o with
  | .next _ => false
  | .fault d => decide (d = e)
  | .refused _ => false

theorem next_of_goesOn {o : Host.Outcome State Fault Refusal} {p : State → Bool} (h : goesOn o p = true) :
    ∃ t, o = .next t ∧ p t = true := by
  cases o with
  | next t => exact ⟨t, rfl, h⟩
  | fault _ => cases h
  | refused _ => cases h

theorem fault_of_stopsWith {o : Host.Outcome State Fault Refusal} {e : Fault} (h : stopsWith o e = true) : o = .fault e := by
  cases o with
  | next _ => cases h
  | fault d => rw [of_decide_eq_true h]
  | refused _ => cases h

/-- The header of V-ENC-1. -/
def header1 : ActiveHeader where
  lspIndex2 := 3
  lspIndex1 := 2
  lspIndex0 := 1
  pitchCode0 := 40
  adCbLag1 := 2
  pitchCode1 := 60
  adCbLag3 := 1
  gainWord0 := 1000
  gainWord1 := 1001
  gainWord2 := 1002
  gainWord3 := 1003
  grid0 := 0
  grid1 := 1
  grid2 := 0
  grid3 := 1

/-- The frame of V-ENC-1. -/
def frame1 : Frame63 where
  header := header1
  reserved := 0
  posWord := 8191
  posTail0 := 1
  posTail1 := 2
  posTail2 := 3
  posTail3 := 4
  sign0 := 0x20
  sign1 := 1
  sign2 := 2
  sign3 := 3

/-- The frame of V-ENC-5. -/
def frame5 : Frame53 where
  header :=
    { lspIndex2 := 7, lspIndex1 := 128, lspIndex0 := 255, pitchCode0 := 123, adCbLag1 := 1, pitchCode1 := 0, adCbLag3 := 2,
      gainWord0 := 1000, gainWord1 := 4079, gainWord2 := 0, gainWord3 := 24, grid0 := 1, grid1 := 1, grid2 := 0, grid3 := 0 }
  pos0 := 0
  pos1 := 0xFFF
  pos2 := 0x123
  pos3 := 5
  sign0 := 15
  sign1 := 0
  sign2 := 5
  sign3 := 10

/-- The SID frame `lsp=(5,6,7) amp=33` of V-ENC-6. -/
def sid33 : SidFrame := { lspIndex2 := 7, lspIndex1 := 6, lspIndex0 := 5, ampIndex := 33 }

/-- A SID frame of moderate gain (program P6). -/
def sid16 : SidFrame := { lspIndex2 := 0, lspIndex1 := 0, lspIndex0 := 0, ampIndex := 16 }

/-- `frame1` with the forbidden pitch code 124. -/
def bad63 : Frame63 := { frame1 with header := { header1 with pitchCode0 := 124 } }

/-- `frame5` with the gain word 4080. -/
def bad53 : Frame53 := { frame5 with header := { frame5.header with gainWord3 := 4080 } }

/-- `frame1` with short lags and the gain words given. -/
def split63 (g0 g3 : BitVec 12) : Frame63 :=
  { frame1 with header := { header1 with pitchCode0 := 39, pitchCode1 := 39, gainWord0 := g0, gainWord1 := 0, gainWord2 := 0, gainWord3 := g3 } }

/-- The bytes of V-ENC-8. -/
def bytes8 : List Byte := [0x00, 0x00, 0x00, 0xF0, 0x01]

/-! ### Well-formedness refuses each forbidden code (30_encoding.md R111) -/

theorem test_legal_frames_are_wellFormed :
    (Instr.frame63 frame1).wellFormed ∧ (Instr.frame53 frame5).wellFormed ∧ (Instr.frame63 (split63 2039 0xFF7)).wellFormed := by
  decide

theorem test_pitch_code_124_is_refused :
    (Instr.frame63 bad63).wellFormed = false
      ∧ (Instr.frame63 { frame1 with header := { header1 with pitchCode1 := 124 } }).wellFormed = false
      ∧ (Instr.frame53 { frame5 with header := { frame5.header with pitchCode0 := 127 } }).wellFormed = false := by decide

theorem test_gain_85_is_refused_at_a_short_lag :
    (Instr.frame63 (split63 2040 0)).wellFormed = false ∧ (Instr.frame63 (split63 0 0xFF8)).wellFormed = false := by decide

theorem test_gain_170_is_refused :
    (Instr.frame63 { frame1 with header := { header1 with gainWord2 := 4080 } }).wellFormed = false
      ∧ (Instr.frame53 bad53).wellFormed = false := by decide

/-! ### Words written out from the spec's encoding -/

/-- 30_encoding.md R120. -/
theorem test_command_bytes :
    decode .command [0x00] = .ok .nop ∧ decode .command [0x01] = .ok .reset ∧ decode .command [0x02] = .ok .decode
      ∧ decode .command [0x03] = .error .badCommand ∧ decode .command [0xFF] = .error .badCommand := by decide

/-- V-ENC-1. -/
theorem test_frame63_word :
    decode .frame [0x0C, 0x08, 0x04, 0xA0, 0xE4, 0x85, 0x3E, 0xE9, 0xA3, 0x3E, 0xEB, 0xA3, 0xFE, 0x7F, 0x00, 0x80, 0x00, 0x30,
      0x00, 0x40, 0x00, 0x80, 0x41, 0x18] = .ok (.frame63 frame1) := by decide +kernel

/-- V-ENC-5. -/
theorem test_frame53_word :
    decode .frame [0x1D, 0x00, 0xFE, 0xEF, 0x03, 0x88, 0x3E, 0xEF, 0x0F, 0x00, 0x18, 0x30, 0x00, 0xF0, 0xFF, 0x23, 0x51, 0x00,
      0x0F, 0xA5] = .ok (.frame53 frame5) := by decide +kernel

/-- V-ENC-6. -/
theorem test_sid_words :
    decode .frame [0x1E, 0x18, 0x14, 0x84] = .ok (.sid sid33) ∧ decode .frame [0x02, 0x00, 0x00, 0x40] = .ok (.sid sid16) := by
  decide +kernel

/-- V-ENC-7. -/
theorem test_untx_words :
    decode .frame [0x03] = .ok (.untx 0) ∧ decode .frame [0x07] = .ok (.untx 1) ∧ decode .frame [0xFF] = .ok (.untx 63) := by
  decide +kernel

/-- V-ENC-12: a frame shorter than its type is rejected by name. -/
theorem test_short_frames_are_rejected :
    decode .frame [] = .error .shortFrame ∧ decode .frame [0x02, 0x00, 0x00] = .error .shortFrame := by decide +kernel

/-! ### One step of each instruction -/

/-- V-CMD-3: `NOP` keeps `STATUS`. -/
theorem test_nop : goesOn (exec .nop (raiseBadCommand state0)) (fun t => byteAt t 3 = 0x12) := by decide +kernel

/-- V-CMD-1: `STATUS`, the seed, the post-filter gain; `CONFIG` is kept. -/
theorem test_reset :
    goesOn (exec .reset (plain state1)) (fun t => byteAt t 3 = 0x10 ∧ byteAt t 1 = 0 ∧ byteAt t 2 = 0
      ∧ t.core.pfGain = 4096 ∧ t.core.cngRandomSeed = 12345 ∧ t.core.erasedFrames = 0) := by decide +kernel

/-- P5: a SID frame of which 3 bytes are there. -/
theorem test_decode_short :
    goesOn (exec .decode (withBytes { state0 with regs := { state0.regs with inLen := 3 } } [0x02]))
      (fun t => byteAt t 3 = 0x11 ∧ byteAt t 4 = 3 ∧ byteAt t 6 = 0) := by decide +kernel

/-- P3: the forbidden pitch code after reset is decoded as P1's comfort noise. -/
theorem test_decode_forbidden_code :
    goesOn (exec .decode (withBytes state0 bytes8))
      (fun t => byteAt t 3 = 0x24 ∧ byteAt t 4 = 24 ∧ byteAt t 6 = 240 ∧ t.core.cngRandomSeed = 17547
        ∧ t.core.pitchLag = #v[129, 135] ∧ t.core.erasedFrames = 0) := by decide +kernel

/-- P1. -/
theorem test_untx_silence :
    goesOn (exec (.untx 0) state0)
      (fun t => byteAt t 3 = 0x20 ∧ byteAt t 4 = 1 ∧ t.core.cngRandomSeed = 17547
        ∧ ((List.range 4).map fun i => (subframeAt t.core i).adCbGain) = [34, 31, 18, 35]
        ∧ ((List.range 4).map fun i => (subframeAt t.core i).adCbLag) = [1, 0, 1, 3]) := by decide +kernel

/-- V-CNG-2: the draws from the seed 17547. -/
theorem test_untx_second_draws :
    goesOn (exec (.untx 0) { state0 with core := { state0.core with cngRandomSeed := 17547 } })
      (fun t => t.core.cngRandomSeed = 49981 ∧ t.core.pitchLag = #v[143, 134]
        ∧ ((List.range 4).map fun i => (subframeAt t.core i).adCbGain) = [38, 16, 47, 22]) := by decide +kernel

/-- P6: the gains of a SID frame with field 16, and `STATUS`. -/
theorem test_sid_gain :
    goesOn (exec (.sid sid16) state0)
      (fun t => t.core.sidGain = 1024 ∧ t.core.curGain = 128 ∧ byteAt t 3 = 0x10 ∧ byteAt t 4 = 4) := by decide +kernel

/-- V-ENC-1: the fields a good FRAME63 leaves, and `STATUS`. -/
theorem test_frame63_fields :
    goesOn (exec (.frame63 frame1) state0)
      (fun t => t.core.pitchLag = #v[58, 78] ∧ t.core.lspIndex = #v[1, 2, 3] ∧ byteAt t 3 = 0x00
        ∧ ((List.range 4).map fun i => (subframeAt t.core i).pulsePos) = [655361, 16386, 3, 16388]
        ∧ ((List.range 4).map fun i => (subframeAt t.core i).ampIndex) = [16, 17, 18, 19]) := by decide +kernel

/-- V-CMD-2, V-CON-1: the third bad frame after an ACTIVE one. -/
theorem test_frame63_bad :
    goesOn (exec (.frame63 bad63) state1) (fun t => byteAt t 3 = 0x04 ∧ t.core.erasedFrames = 3) := by decide +kernel

/-- V-ENC-5: the fields a good FRAME53 leaves. -/
theorem test_frame53_fields :
    goesOn (exec (.frame53 frame5) state0)
      (fun t => t.core.pitchLag = #v[141, 18] ∧ t.core.curRate = .r5300 ∧ byteAt t 4 = 20
        ∧ ((List.range 4).map fun i => ((subframeAt t.core i).adCbGain, (subframeAt t.core i).ampIndex))
          = [(41, 16), (169, 23), (0, 0), (1, 0)]
        ∧ ((List.range 4).map fun i => (subframeAt t.core i).adCbLag) = [1, 1, 1, 2]) := by decide +kernel

/-- 60_exceptions.md R406: a harmonic lag below 1 stops. -/
theorem test_frame53_harmonic_fault :
    stopsWith (exec (.frame53 { frame5 with header := { frame5.header with pitchCode0 := 0, gainWord0 := 0 } })
      { state0 with params := { state0.params with rom := { rom0 with pitchContrib := Vector.replicate 340 (-20) } } })
      .indexFault := by decide +kernel

/-! ### Shared operations on the spec's vectors -/

/-- V-PRIM-3, 4, 5, 6, 7, 9, 15. -/
theorem test_primitives :
    satAdd32 2147483647 1 = 2147483647 ∧ satDadd32 0 1073741824 = 2147483647 ∧ satDadd32 10 7 = 24
      ∧ log2Floor 0x7FFF = 14 ∧ normalizeBits 0 31 = 30 ∧ squareRoot 200 = 10 ∧ squareRoot 2147483647 = 0x7FFE
      ∧ mull2 (-2147483648) (-32768) = -2147483648 ∧ wrap16 (-32769) = 32767 := by decide +kernel

/-- V-PRIM-10, 12. -/
theorem test_scale_vector :
    scaleVector (#v[100, -3] : Vector I16 2) = #v[3200, -96] ∧ scaleShift (#v[100, -3] : Vector I16 2) = 5
      ∧ scaleVector (#v[-32768, 5] : Vector I16 2) = #v[-4096, 0] ∧ scaleShift (#v[-32768, 5] : Vector I16 2) = -3 := by
  decide +kernel

/-- V-LSP-3: ten iterations do not settle; V-LSP-6: one pair moves. -/
theorem test_stability :
    (stabilityLoop 0x100 (Vector.ofFn fun i => BitVec.ofNat 16 (0x100 * (i.val + 1))))
        = (#v[0x16A, 0x255, 0x343, 0x434, 0x528, 0x61E, 0x716, 0x812, 0x90F, 0xA0E], false)
      ∧ stabilityLoop 0x100 (ramp.set 5 0x1480)
        = (#v[0x400, 0x800, 0xC00, 0x1000, 0x13C0, 0x14C0, 0x1C00, 0x2000, 0x2400, 0x2800], true) := by decide +kernel

/-- V-LPC-1. -/
theorem test_negative_cosine :
    (negCos ⟨4, #v[0, 0, 16364, 16339]⟩ 0x140).toOption = some (-32703)
      ∧ (negCos ⟨4, #v[0, 0, 16364, 16339]⟩ 0x180).toOption = none := by decide +kernel

/-- V-LPC-3, second row. -/
theorem test_polynomials :
    poly (-16384) (-16384) (-16384) (-16384) (-16384)
        = #v[33554432, -167772160, 503316480, -1006632960, 1509949440, -1711276032]
      ∧ lpcOf (poly 8192 8192 8192 8192 8192) (poly 8192 8192 8192 8192 8192)
        = #v[20480, 32767, 32767, 32767, 32767, 32767, 32767, 32767, 20480, 8192] := by decide +kernel

/-- V-FCB-1, V-FCB-3, V-FCB-6: the slots. -/
theorem test_slots :
    slots63 0 0 = [0, 1, 2, 3, 4, 5] ∧ slots63 0 593774 = [24, 25, 26, 27, 28, 29] ∧ slots63 0 123456 = [1, 2, 4, 18, 21, 24]
      ∧ slots63 1 142505 = [25, 26, 27, 28, 29] := by decide +kernel

/-- V-FCB-8, V-FCB-10. -/
theorem test_fixed_codebook_overlays :
    ((List.range 60).filter fun p => rd (dirac ((Vector.replicate 60 0).set 5 100) 18) p ≠ 0) = [5, 23, 41, 59]
      ∧ [20, 40, 41].map (fun p => rd (enhance ((Vector.replicate 60 0).set 0 1000) 20 16384) p) = [500, 250, 0] := by
  decide +kernel

/-- V-PPF-2, V-PPF-3: the coefficients of the pitch post-filter. -/
theorem test_ppf_gains :
    ppfGains Config.resetParams 0x1800 40 1000 800 1000 = ⟨40, 4375, 29168⟩
      ∧ ppfGains Config.resetParams 0x1800 (-40) 1000 1000 1000 = ⟨-40, 5173, 27594⟩ := by decide +kernel

/-- V-FPF-2, V-FPF-4. -/
theorem test_formant_parts :
    [8192, 0, -8192, 1, 3, -5].map compCoef = [-4096, 0, 4096, -4, -4, 0] ∧ smoothGain 4096 8192 = 4352
      ∧ scaleSample 1000 4096 = 2125 := by decide +kernel

/-- V-FPF-3. -/
theorem test_gain_scale :
    gainScale (Vector.replicate 60 1000) 7500000 = 4096 ∧ gainScale (Vector.replicate 60 1000) 120000000 = 16384 := by
  decide +kernel

/-- V-CON-3: the first draws of the unvoiced residual. -/
theorem test_unvoiced_draws :
    noiseSeed 0 = 259 ∧ noiseSeed 259 = 4126 ∧ asr (16384 * (noiseSeed 4126).toInt) 15 = -6392 := by decide +kernel

/-- V-CNG-1: the pulse words and the positions of the first subframes. -/
theorem test_noise_draws :
    (noiseDraws 12345).pos0 = [47, 51, 27, 41, 21, 9, 117, 83, 69, 81, 109] ∧ (noiseDraws 12345).sign0.take 4
      = [16384, 16384, -16384, -16384] := by decide +kernel

/-- V-CNG-3, V-CNG-4. -/
theorem test_pair_amplitude :
    rulesAmplitude (List.replicate 120 0) (List.range 11) (List.replicate 11 16384) 1024 = 208
      ∧ rulesAmplitude (List.replicate 120 1000) (List.range 11) (List.replicate 11 16384) 128 = -2000 := by decide +kernel

/-- V-SID-3. -/
theorem test_sid_estimate :
    ([(1465, 2), (0, 0), (30000, 0), (1000, 11)].map fun g : Int × Int =>
      estimateSidGain
        { Config.resetParams with rom := { rom0 with cngFilt := #v[273, 0, 0, 0], cngBseg := #v[2048, 18432, 231233] } }
        g.1 g.2) = [40, 0, 63, 0] := by decide +kernel

/-! ### Witnesses: every statement's hypotheses are met -/

theorem witness_StepRunsTheCommandWritten :
    (about state0 (.write 0 .one 1)).pending = .write 0 .one 1 :: [] ∧ decode .command [(1 : BitVec 32).setWidth 8] = .ok .reset := by
  decide +kernel

/-- Both ends of the reserved range. -/
theorem witness_ReservedCommandSetsErrOnly :
    (about state0 (.write 0 .one 3)).pending = .write 0 .one 3 :: [] ∧ 3 ≤ ((3 : BitVec 32).setWidth 8).toNat
      ∧ (about state0 (.write 0 .one 0xFF)).pending = .write 0 .one 0xFF :: [] ∧ 3 ≤ ((0xFF : BitVec 32).setWidth 8).toNat := by
  decide +kernel

/-- A command word, a word of one byte that is a frame, and words of several bytes. -/
theorem witness_PlacedWordIsWhatStepRuns :
    decodeTableWord 8 2 = some .decode ∧ decodeTableWord 8 3 = some (.untx 0) ∧ decodeTableWord 32 0x84141 = some (.frame53 (Frame53.ofStream 0x84141#192))
      ∧ Instr.source .decode = .command ∧ Instr.source (.untx 0) = .frame := by decide +kernel

theorem witness_DecodeRunsTheFrameInInBytes :
    decode .frame (withBytes state0 [0x1E, 0x18, 0x14, 0x84]).regs.inBytes.toList = .ok (.sid sid33) := by decide +kernel

/-- Each disjunct, at its boundary. -/
theorem witness_ShortFrameReportsAndSkips :
    ({ state0 with regs := { state0.regs with inLen := 0 } } : State).regs.inLen = 0
      ∧ ({ state0 with regs := { state0.regs with inLen := 23 } } : State).regs.inLen.toNat
        < frameSize (state0.regs.inBytes[0].extractLsb' 0 2) := by decide +kernel

theorem witness_ShortFrameComesFirst :
    Instr.source (.sid sid16) = .frame
      ∧ ({ state0 with regs := { state0.regs with inLen := 3 } } : State).regs.inLen.toNat < Instr.size (.sid sid16) := by
  decide +kernel

/-- After a frame of each kind, with both values of `CNG_GAIN_RESET`. -/
theorem witness_UntxCompletes :
    (ReadyUntx state0 ∧ state0.core.pastFrameType ≠ .active) ∧ (ReadyUntx state1 ∧ state1.core.pastFrameType = .active)
      ∧ state1.params.cngGainReset = false
      ∧ ReadyUntx (gainReset state1) ∧ (gainReset state1).core.pastFrameType = .active
      ∧ (gainReset state1).params.cngGainReset = true := by decide +kernel

/-- Each clause of the smoothing. -/
theorem witness_SidCompletes :
    (ReadySid sid33 state0 ∧ state0.params.cngGainReset = false)
      ∧ ReadySid sid33 (gainReset state1) ∧ (gainReset state1).params.cngGainReset = true
      ∧ (gainReset state1).core.pastFrameType = .active := by decide +kernel

/-- Lags on both sides of 58: the gain words whole, and split with the Dirac bit set. -/
theorem witness_Frame63Completes :
    (Ready63 frame1 state0 ∧ frame1.header.pitchCode0.toNat + 18 = 58)
      ∧ Ready63 (split63 2039 0xFF7) state0 ∧ (split63 2039 0xFF7).header.pitchCode1.toNat + 18 = 57 := by decide +kernel

theorem witness_Frame53Completes : Ready53 frame5 state0 := by decide +kernel

/-- Each clause: the frame stands in `IN_BYTES` and completes. -/
theorem witness_DecodeCompletes :
    (decode .frame (withBytes state0 (encode (.frame63 frame1))).regs.inBytes.toList = .ok (.frame63 frame1)
        ∧ Ready63 frame1 (withBytes state0 (encode (.frame63 frame1))))
      ∧ (decode .frame (withBytes state0 (encode (.frame53 frame5))).regs.inBytes.toList = .ok (.frame53 frame5)
        ∧ Ready53 frame5 (withBytes state0 (encode (.frame53 frame5))))
      ∧ (decode .frame (withBytes state0 (encode (.sid sid33))).regs.inBytes.toList = .ok (.sid sid33)
        ∧ ReadySid sid33 (withBytes state0 (encode (.sid sid33))))
      ∧ decode .frame (withBytes state0 (encode (.untx 5))).regs.inBytes.toList = .ok (.untx 5)
        ∧ ReadyUntx (withBytes state0 (encode (.untx 5))) := by decide +kernel

theorem witness_BadFrameAfterActiveIsConcealed :
    BadActiveFrame (.frame63 bad63) state1 ∧ BadActiveFrame (.frame53 bad53) state1 ∧ ReadyConceal state1 := by decide +kernel

theorem witness_BadFrameElsewhereIsNoise :
    BadActiveFrame (.frame63 bad63) state0 ∧ BadActiveFrame (.frame53 bad53) state0 ∧ ReadyNoiseInstead state0 := by decide +kernel

/-- With the post-filter on and off. -/
theorem witness_ThirdBadFrameMutes :
    (BadActiveFrame (.frame63 bad63) state1 ∧ ReadyConceal state1 ∧ 2 ≤ state1.core.erasedFrames ∧ state1.core.postfilter = true)
      ∧ (BadActiveFrame (.frame63 bad63) (plain state1) ∧ ReadyConceal (plain state1) ∧ 2 ≤ (plain state1).core.erasedFrames
        ∧ (plain state1).core.postfilter = false) := by decide +kernel

theorem witness_SilentNoiseStaysSilent : Silent state0 ∧ Silent (plain state0) := by decide +kernel

/-- Both clauses: the post-filter off and on. -/
theorem witness_OutputStageFollowsSynthesis :
    ((plain state0).core.postfilter = false ∧ Instr.size (.untx 0) ≤ (plain state0).regs.inLen.toNat
        ∧ ∃ t, exec (.untx 0) (plain state0) = .next t)
      ∧ (state0.core.postfilter = true ∧ Instr.size (.untx 0) ≤ state0.regs.inLen.toNat ∧ ∃ t, exec (.untx 0) state0 = .next t) := by
  refine ⟨⟨by decide +kernel, by decide +kernel, ?_⟩, by decide +kernel, by decide +kernel, ?_⟩
  · exact (next_of_goesOn (p := fun _ => true) (by decide +kernel)).imp fun _ h => h.1
  · exact (next_of_goesOn (p := fun _ => true) (by decide +kernel)).imp fun _ h => h.1

/-- Both forms: a frame and DECODE. -/
theorem witness_DecodeWindowFrame :
    (Instr.source (.untx 0) = .frame ∧ ∃ t, exec (.untx 0) state0 = .next t)
      ∧ ∃ t, exec .decode (withBytes state0 [0x03]) = .next t :=
  ⟨⟨rfl, (next_of_goesOn (p := fun _ => true) (by decide +kernel)).imp fun _ h => h.1⟩,
    (next_of_goesOn (p := fun _ => true) (by decide +kernel)).imp fun _ h => h.1⟩

/-- A SID frame, and an UNTRANSMITTED frame with the post-filter off. -/
theorem witness_NoiseFrameLeavesUnchanged :
    (∃ t, exec (.sid sid33) state0 = .next t) ∧ (plain state0).core.postfilter = false
      ∧ ∃ t, exec (.untx 0) (plain state0) = .next t :=
  ⟨(next_of_goesOn (p := fun _ => true) (by decide +kernel)).imp fun _ h => h.1, rfl,
    (next_of_goesOn (p := fun _ => true) (by decide +kernel)).imp fun _ h => h.1⟩

/-- A good frame, a bad frame after an ACTIVE one with one erasure counted, and a bad frame after another, each with the post-filter
off. -/
theorem witness_ActiveFrameLeavesUnchanged :
    ((Instr.frame63 frame1).wellFormed = true ∧ (plain state0).core.postfilter = false
        ∧ ∃ t, exec (.frame63 frame1) (plain state0) = .next t)
      ∧ ((Instr.frame53 bad53).wellFormed = false ∧ (plain (erasedOnce state1)).core.pastFrameType = .active
        ∧ (plain (erasedOnce state1)).core.erasedFrames < 2 ∧ (plain (erasedOnce state1)).core.postfilter = false
        ∧ ∃ t, exec (.frame53 bad53) (plain (erasedOnce state1)) = .next t)
      ∧ ((Instr.frame63 bad63).wellFormed = false ∧ (plain state0).core.pastFrameType ≠ .active
        ∧ ∃ t, exec (.frame63 bad63) (plain state0) = .next t) :=
  ⟨⟨by decide +kernel, rfl, (next_of_goesOn (p := fun _ => true) (by decide +kernel)).imp fun _ h => h.1⟩,
    ⟨by decide +kernel, rfl, by decide +kernel, rfl,
      (next_of_goesOn (p := fun _ => true) (by decide +kernel)).imp fun _ h => h.1⟩,
    by decide +kernel, by decide +kernel, (next_of_goesOn (p := fun _ => true) (by decide +kernel)).imp fun _ h => h.1⟩

/-- Two states that differ in a byte the frame does not reach; one pair goes on and one stops. -/
theorem witness_DecodeDependsOnItsInputsOnly :
    (let s := withBytes state0 [0x03]
      let s' := withBytes state0 [0x03, 0xAA]
      s.core = s'.core ∧ s.regs.inLen = s'.regs.inLen ∧ s.regs.inBytes ≠ s'.regs.inBytes
        ∧ s.regs.inBytes.toList.take (frameSize (s.regs.inBytes[0].extractLsb' 0 2))
          = s'.regs.inBytes.toList.take (frameSize (s.regs.inBytes[0].extractLsb' 0 2)))
      ∧ (withBytes state0 [0x03]).params = (withBytes state0 [0x03, 0xAA]).params
      ∧ (∃ t, exec .decode (withBytes state0 [0x03]) = .next t)
      ∧ exec .decode (shortTable (withBytes state0 [0x03])) = .fault .romIndexFault :=
  ⟨by decide +kernel, rfl, (next_of_goesOn (p := fun _ => true) (by decide +kernel)).imp fun _ h => h.1,
    fault_of_stopsWith (by decide +kernel)⟩

/-- V-ENC-10's words on both sides of the lag 58: the Dirac bit is the top bit of a split word only. -/
theorem witness_GainWordDecodes :
    (Rate.r6300 = .r6300 ∧ 57 < 58) ∧ ¬(Rate.r6300 = .r6300 ∧ 58 < 58) ∧ ¬(Rate.r5300 = .r6300 ∧ 57 < 58)
      ∧ gainOperand .r6300 57 (0x800 + 2039) = { diracTrain := 1, gain := 84, amp := 23, tableLen := 85 }
      ∧ gainOperand .r6300 58 4079 = { diracTrain := 0, gain := 169, amp := 23, tableLen := 170 }
      ∧ gainOperand .r5300 57 (0x800 + 1000) = { diracTrain := 0, gain := 127, amp := 0, tableLen := 170 } := by decide +kernel

theorem witness_InterpolationStaysBetween : 0 < 10 ∧ 9 < 10 := by decide

/-- A vector inside the table, and one outside. -/
theorem witness_UntxStopsExactlyOutsideCosTable :
    (1 ≤ state0.regs.inLen.toNat ∧ NoiseLagsOk state0.params
        ∧ InterpInTable state0.params.rom.cosTab state0.core.sidLsp state0.core.prevLsp)
      ∧ (1 ≤ (shortTable state0).regs.inLen.toNat ∧ NoiseLagsOk (shortTable state0).params
        ∧ ¬ InterpInTable (shortTable state0).params.rom.cosTab (shortTable state0).core.sidLsp (shortTable state0).core.prevLsp) := by
  decide +kernel

/-- The largest indices of both pulse counts. -/
theorem witness_PulsePositionsSelectDistinctSlots : 593774 < maxPos 0 ∧ 142505 < maxPos 3 ∧ 3 < 4 := by decide +kernel

/-- The last index and the last amplitude, without and with the Dirac bit. -/
theorem witness_MultipulseVectorAt6300 :
    ∀ d ∈ [0#1, 1#1], 2 < 4 ∧
      ({ Subframe.reset with pulsePos := 593774, ampIndex := 23, diracTrain := d } : Subframe).pulsePos.toNat < maxPos 2
        ∧ ({ Subframe.reset with pulsePos := 593774, ampIndex := 23, diracTrain := d } : Subframe).ampIndex.toNat < 24
        ∧ ({ Subframe.reset with pulsePos := 593774, ampIndex := 23, diracTrain := d } : Subframe).diracTrain = d := by
  decide +kernel

theorem witness_OutOfRangePositionIsSilent :
    maxPos 0 ≤ ({ Subframe.reset with pulsePos := 593775 } : Subframe).pulsePos.toNat := by decide +kernel

/-- Both ends of the lag range. -/
theorem witness_DiracAddsShiftedCopies : (18 ≤ 18 ∧ 18 ≤ 57 ∧ 59 < 60) ∧ 18 ≤ 57 ∧ 57 ≤ 57 ∧ 57 < 60 := by decide

/-- An offset below 60, one beyond it, and a position that is no offset. -/
theorem witness_RegularPulsesAt5300 :
    pulseOff53 { Subframe.reset with pulsePos := 7, gridIndex := 1 } 0 = 57
      ∧ pulseOff53 { Subframe.reset with pulsePos := 0xFFF, gridIndex := 1 } 3 = 63
      ∧ ∀ k, k < 4 → 1 ≠ pulseOff53 Subframe.reset k := by decide +kernel

/-- The shortest lag and the last position. -/
theorem witness_HarmonicEnhancementIsInPlace : 1 ≤ 1 ∧ 0 < 1 ∧ 1 ≤ 59 ∧ 59 < 60 := by decide

theorem witness_VoicedResidualIsPeriodic : 1 ≤ 1 ∧ 1 ≤ 146 ∧ 146 ≤ 146 ∧ 145 < 146 ∧ 146 ≤ 239 ∧ 239 < 240 := by decide

theorem witness_UnvoicedResidualIsBounded : (0 : Int) ≤ 32767 ∧ (32767 : Int) ≤ 32767 ∧ 239 < 240 := by decide

theorem witness_PitchPostfilterStaysInBuffer :
    18 ≤ lagOf { state0.core with pitchLag := #v[18, 146] } 0 ∧ lagOf { state0.core with pitchLag := #v[18, 146] } 3 ≤ 146 ∧ 3 < 4 := by
  decide +kernel

theorem witness_FormantGainMovesTowardTarget : (0 : Int) ≤ 32767 ∧ (32767 : Int) ≤ 32767 := by decide

theorem witness_SquareRootIsLargestEven :
    (0 : Int) ≤ 2147483647 ∧ (2147483647 : Int) ≤ 2147483647 ∧ (0 : Int) ≤ 0x7FFE ∧ (0x7FFE : Int) % 2 = 0
      ∧ 2 * ((0x7FFE : Int) * 0x7FFE) ≤ 2147483647 := by decide

theorem witness_ScaleVectorNormalizes : 1 < 2 := by decide

/-- Both forms. -/
theorem witness_NoiseParameterRanges :
    (Instr.size (.untx 0) ≤ state0.regs.inLen.toNat ∧ ∃ t, exec (.untx 0) state0 = .next t)
      ∧ Instr.size (.sid sid33) ≤ state0.regs.inLen.toNat ∧ ∃ t, exec (.sid sid33) state0 = .next t :=
  ⟨⟨by decide +kernel, (next_of_goesOn (p := fun _ => true) (by decide +kernel)).imp fun _ h => h.1⟩,
    by decide +kernel, (next_of_goesOn (p := fun _ => true) (by decide +kernel)).imp fun _ h => h.1⟩

/-- A value of each segment, at its ends, and two in order. -/
theorem witness_SidGainMapIsMonotone :
    ((0 : Int) ≤ 15 ∧ (15 : Int) < 16) ∧ ((16 : Int) ≤ 31 ∧ (31 : Int) < 32) ∧ ((32 : Int) ≤ 63 ∧ (63 : Int) ≤ 63)
      ∧ (0 : Int) ≤ 15 ∧ (15 : Int) < 63 := by decide

/-- The last access that lies in the window. -/
theorem witness_HostReadHasNoSideEffect :
    (about state0 (.read 0x2FC .four)).pending = .read 0x2FC .four :: [] ∧ 0x2FC + widthBytes .four ≤ 0x300 := by decide +kernel

/-- `CONFIG`, `IN_LEN`, both ends of `IN_BYTES`, a read-only byte and the last byte of the window. -/
theorem witness_HostWriteChangesOneByte :
    ∀ a ∈ [0x001, 0x002, 0x020, 0x037, 0x003, 0x2FF],
      (about state0 (.write a .one 0xA5)).pending = .write a .one 0xA5 :: [] ∧ a ≠ 0 ∧ a < 0x300 := by decide +kernel

theorem witness_EncodeOfDecodeIsTheBytes : decode .frame [0xFF, 0x11] = .ok (.untx 63) ∧ decode .command [0x01] = .ok .reset := by
  decide +kernel

/-- Each frame type, with exactly its bytes. -/
theorem witness_EveryByteIsDecoded :
    ∀ b ∈ [0x00#8, 0x01#8, 0x02#8, 0x03#8],
      frameSize (b.extractLsb' 0 2) ≤ (List.replicate (frameSize (b.extractLsb' 0 2) - 1) 0#8).length + 1 := by decide +kernel

theorem persistent_inv_state1 : state1.core.Inv where
  erased := by decide +kernel
  past := by decide +kernel
  pfGain := by decide +kernel
  interpIndex := by decide +kernel
  lags := by decide +kernel
  gains := by decide +kernel
  sidGain := by decide +kernel
  sidTarget := by decide +kernel
  curGain := by decide +kernel
  curShift := by decide +kernel

theorem inv_state1 : state1.Inv where
  core := persistent_inv_state1
  regs := ⟨by decide +kernel, by decide +kernel, by decide +kernel⟩

/-- A step that decodes a frame, from a state with the invariant. -/
theorem witness_StepKeepsInvariant :
    state1.Inv ∧ (∃ t, exec (.frame63 bad63) state1 = .next t)
      ∧ (about (withBytes state1 (encode (.frame63 bad63))) (.write 0 .one 2)).Inv
      ∧ ∃ t, step (about (withBytes state1 (encode (.frame63 bad63))) (.write 0 .one 2)) = .next t :=
  ⟨inv_state1, (next_of_goesOn (p := fun _ => true) (by decide +kernel)).imp fun _ h => h.1,
    ⟨persistent_inv_state1, ⟨by decide +kernel, by decide +kernel, by decide +kernel⟩⟩,
    (next_of_goesOn (p := fun _ => true) (by decide +kernel)).imp fun _ h => h.1⟩

theorem witness_ParametersAndHostFieldsStay :
    (∃ t, step (about state0 (.write 0 .one 1)) = .next t) ∧ ∃ t, exec (.sid sid33) state0 = .next t :=
  ⟨(next_of_goesOn (p := fun _ => true) (by decide +kernel)).imp fun _ h => h.1,
    (next_of_goesOn (p := fun _ => true) (by decide +kernel)).imp fun _ h => h.1⟩

/-- A step that decodes a bad frame. -/
theorem witness_GainMemoryStaysInRange :
    (∀ k : Fin 24, 0 ≤ state1.params.rom.fixedCbGain[k].toInt)
      ∧ 0 ≤ state1.core.interpGain.toInt ∧ state1.core.interpGain.toInt ≤ 32767
      ∧ ∃ t, step (about (withBytes state1 (encode (.frame63 bad63))) (.write 0 .one 2)) = .next t :=
  ⟨by decide +kernel, by decide +kernel, by decide +kernel,
    (next_of_goesOn (p := fun _ => true) (by decide +kernel)).imp fun _ h => h.1⟩

/-- A fault of the cosine table, in a state with the invariant, and the harmonic fault of a 5300 bit/s frame. -/
theorem witness_StopsOnlyAsTheRulesSay :
    exec (.untx 0) (shortTable state1) = .fault .romIndexFault ∧ (shortTable state1).Inv ∧ NoiseLagsOk (shortTable state1).params
      ∧ exec (.frame53 { frame5 with header := { frame5.header with pitchCode0 := 0, gainWord0 := 0 } })
        { state0 with params := { state0.params with rom := { rom0 with pitchContrib := Vector.replicate 340 (-20) } } }
        = .fault .indexFault :=
  ⟨fault_of_stopsWith (by decide +kernel), ⟨persistent_inv_state1, ⟨by decide +kernel, by decide +kernel, by decide +kernel⟩⟩,
    by decide +kernel, fault_of_stopsWith test_frame53_harmonic_fault⟩

/-- Each clause, at the ends of its range: both calls of the search, and the last subframe's window. -/
theorem witness_HistoryIndicesStayInRange :
    (state1.Inv ∧ NoiseLagsOk state1.params) ∧ (1 ≤ 144 ∧ 144 ≤ 144 ∧ 63 < 64) ∧ (1 ≤ 146 ∧ 146 ≤ 146 ∧ 239 < 240)
      ∧ (searchCentre 18 - 3 ≤ 15 ∧ 15 ≤ searchHi 266 18 120 .backward)
      ∧ (searchCentre 146 - 3 ≤ 146 ∧ 146 ≤ searchHi (146 + 60 * 0) 146 60 .forward)
      ∧ searchCentre 146 - 3 ≤ 146 ∧ 146 ≤ searchHi (146 + 60 * 3) 146 60 .backward :=
  ⟨⟨inv_state1, by decide +kernel⟩, by decide, by decide, by decide +kernel, by decide +kernel, by decide +kernel, by decide +kernel⟩

end Sys2Proof.Tests
end

section
/-! The lag guards of log entry 11 never fire (00_scope.md R13, R15). Each part of a decode is shown to fault only in the ways the
rules name; the two parts with a guard take as hypothesis that its lag is inside the history. That hypothesis is then met for each
frame type: by the pitch codes of a good ACTIVE frame, by the draws of a comfort-noise frame, and by the invariant for a concealed
one. -/

namespace Sys2Proof.Proofs
open Sys2Proof.Machine

/-! ### Computations whose faults are known -/

/-- Every fault of the computation has the property. -/
def FaultsOnly {α : Type} (P : Fault → Prop) (x : Except Fault α) : Prop := ∀ e, x = .error e → P e

section Computations
variable {α β : Type} {P : Fault → Prop}

theorem faultsOnly_ok (a : α) : FaultsOnly P (.ok a : Except Fault α) := fun _ h => nomatch h

theorem faultsOnly_error {e : Fault} (he : P e) : FaultsOnly P (.error e : Except Fault α) := by
  intro d h
  cases h
  exact he

/-- A sequence faults as its parts do; the second part runs on a value the first one gave. -/
theorem faultsOnly_bind {x : Except Fault α} {f : α → Except Fault β} (hx : FaultsOnly P x)
    (hf : ∀ a, x = .ok a → FaultsOnly P (f a)) : FaultsOnly P (x >>= f) := by
  intro e h
  rcases bind_eq_error.mp h with h | ⟨a, ha, h⟩
  · exact hx e h
  · exact hf a ha e h

/-! ### Table reads -/

theorem romRead_faultsOnly (hrom : P .romIndexFault) {w n : Nat} (table : Vector (BitVec w) n) (i : Nat) :
    FaultsOnly P (romRead table i) := by
  intro e h
  cases romRead_error h
  exact hrom

/-- R239. -/
theorem acbTaps_faultsOnly (hrom : P .romIndexFault) (rom : Rom) (rate : Rate) (lag : Nat) (sf : Subframe) :
    FaultsOnly P (acbTaps rom rate lag sf) := by
  have tap (k : Nat) : FaultsOnly P (acbTap rom rate lag sf k) := by
    unfold acbTap
    split
    · exact romRead_faultsOnly hrom _ _
    · exact romRead_faultsOnly hrom _ _
  exact faultsOnly_bind (tap 0) fun _ _ => faultsOnly_bind (tap 1) fun _ _ => faultsOnly_bind (tap 2) fun _ _ =>
    faultsOnly_bind (tap 3) fun _ _ => faultsOnly_bind (tap 4) fun _ _ => faultsOnly_ok _

/-- R207. -/
theorem negCos_faultsOnly (hrom : P .romIndexFault) (tab : CosTable) (v : Int) : FaultsOnly P (negCos tab v) := by
  unfold negCos
  dsimp only
  split
  · exact faultsOnly_error hrom
  · exact faultsOnly_ok _

/-- R206–R210. -/
theorem lsp2lpc_faultsOnly (hrom : P .romIndexFault) (tab : CosTable) (v : Vector I16 10) : FaultsOnly P (lsp2lpc tab v) := by
  have cosine (k : Nat) : FaultsOnly P (negCos tab (rd v k)) := negCos_faultsOnly hrom tab _
  exact faultsOnly_bind (cosine 0) fun _ _ => faultsOnly_bind (cosine 1) fun _ _ => faultsOnly_bind (cosine 2) fun _ _ =>
    faultsOnly_bind (cosine 3) fun _ _ => faultsOnly_bind (cosine 4) fun _ _ => faultsOnly_bind (cosine 5) fun _ _ =>
    faultsOnly_bind (cosine 6) fun _ _ => faultsOnly_bind (cosine 7) fun _ _ => faultsOnly_bind (cosine 8) fun _ _ =>
    faultsOnly_bind (cosine 9) fun _ _ => faultsOnly_ok _

/-- R212. -/
theorem lspInterp_faultsOnly (hrom : P .romIndexFault) (tab : CosTable) (cur prev : Vector I16 10) :
    FaultsOnly P (lspInterp tab cur prev) := by
  have coefs (s : Nat) : FaultsOnly P (lsp2lpc tab (interpolated cur prev s)) := lsp2lpc_faultsOnly hrom tab _
  exact faultsOnly_bind (coefs 0) fun _ _ => faultsOnly_bind (coefs 1) fun _ _ => faultsOnly_bind (coefs 2) fun _ _ =>
    faultsOnly_bind (coefs 3) fun _ _ => faultsOnly_ok _

/-! ### Codebooks -/

/-- R231–R234: the 6300 bit/s codebook reads one gain. -/
theorem fcb63_faultsOnly (hrom : P .romIndexFault) (rom : Rom) (s : Nat) (sf : Subframe) (lag : Nat) :
    FaultsOnly P (fcb63 rom s sf lag) := by
  unfold fcb63
  split
  · exact faultsOnly_ok _
  · exact faultsOnly_bind (romRead_faultsOnly hrom _ _) fun _ _ => faultsOnly_ok _

/-- R235–R237: the 5300 bit/s codebook can also stop in the harmonic enhancement. -/
theorem fcb53_faultsOnly (hrom : P .romIndexFault) (hidx : P .indexFault) (rom : Rom) (sf : Subframe) (lag : Nat) :
    FaultsOnly P (fcb53 rom sf lag) := by
  refine faultsOnly_bind (romRead_faultsOnly hrom _ _) fun g _ => ?_
  refine faultsOnly_bind (romRead_faultsOnly hrom _ _) fun contrib _ => ?_
  refine faultsOnly_bind (romRead_faultsOnly hrom _ _) fun beta _ => ?_
  dsimp only
  split
  · split
    · exact faultsOnly_error hidx
    · exact faultsOnly_ok _
  · exact faultsOnly_ok _

theorem fixedCodebook_faultsOnly (hrom : P .romIndexFault) (hidx : P .indexFault) (rom : Rom) (rate : Rate) (s : Nat)
    (sf : Subframe) (lag : Nat) : FaultsOnly P (fixedCodebook rom rate s sf lag) := by
  cases rate with
  | r6300 => exact fcb63_faultsOnly hrom rom s sf lag
  | r5300 => exact fcb53_faultsOnly hrom hidx rom sf lag

/-- R238: the guard on the effective lag does not fire inside [1, 144]. -/
theorem adaptiveCodebook_faultsOnly (hrom : P .romIndexFault) (rom : Rom) (rate : Rate) (e : ExcBuf) (base : Nat) {lag : Nat}
    {sf : Subframe} (hlag : 1 ≤ acbLag lag sf ∧ acbLag lag sf ≤ 144) :
    FaultsOnly P (adaptiveCodebook rom rate e base lag sf) := by
  rcases adaptiveCodebook_cases rom rate e base lag sf with ⟨hout, _⟩ | ⟨_, _, ⟨d, ht, h⟩ | ⟨taps, _, h⟩⟩
  · omega
  · rw [h]
    exact faultsOnly_error (acbTaps_faultsOnly hrom rom rate lag sf d ht)
  · rw [h]
    exact faultsOnly_ok _

end Computations

/-! ### Effective lags inside the history -/

/-- The effective lag of each subframe is in [1, 144] (R238). -/
def AcbLagsOk (c : Persistent) : Prop :=
  ∀ s, s < 4 → 1 ≤ acbLag (lagOf c s) (subframeAt c s) ∧ acbLag (lagOf c s) (subframeAt c s) ≤ 144

/-- The effective lags are in range where each pair's lag leaves room for the fine lags of its two subframes. -/
theorem acbLagsOk_of_pairs {c : Persistent} {a b : BitVec 8} (hlags : c.pitchLag = #v[a, b]) (ha : 2 ≤ a.toNat)
    (hb : 2 ≤ b.toNat) (h0 : a.toNat + (subframeAt c 0).adCbLag.toNat ≤ 145)
    (h1 : a.toNat + (subframeAt c 1).adCbLag.toNat ≤ 145) (h2 : b.toNat + (subframeAt c 2).adCbLag.toNat ≤ 145)
    (h3 : b.toNat + (subframeAt c 3).adCbLag.toNat ≤ 145) : AcbLagsOk c := by
  intro s hs
  have hpair : lagOf c 0 = a.toNat ∧ lagOf c 1 = a.toNat ∧ lagOf c 2 = b.toNat ∧ lagOf c 3 = b.toNat := by
    simp [lagOf, hlags, cell]
  obtain ⟨l0, l1, l2, l3⟩ := hpair
  unfold acbLag
  interval_cases s <;> omega

/-- The effective lags are a matter of the lags and the subframe records. -/
theorem acbLagsOk_congr {c d : Persistent} (h : AcbLagsOk c) (hlag : d.pitchLag = c.pitchLag)
    (hsub : d.subframe = c.subframe) : AcbLagsOk d := by
  intro s hs
  have hs' := h s hs
  unfold lagOf subframeAt at hs' ⊢
  rwa [hlag, hsub]

/-- A write that keeps a record's fine lag keeps the effective lags. -/
theorem acbLagsOk_setSubframe {c : Persistent} (h : AcbLagsOk c) (i : Nat) {g : Subframe → Subframe}
    (hg : ∀ sf, (g sf).adCbLag = sf.adCbLag) : AcbLagsOk (setSubframe c i g) := by
  intro s hs
  have hlag : lagOf (setSubframe c i g) s = lagOf c s := by simp [lagOf]
  have hfine : (subframeAt (setSubframe c i g) s).adCbLag = (subframeAt c s).adCbLag := by
    by_cases hi : s = i
    · subst hi; rw [subframeAt_setSubframe_same c s g hs, hg]
    · rw [subframeAt_setSubframe_other c i s g hi]
  have := h s hs
  unfold acbLag at this ⊢
  rwa [hlag, hfine]

/-! ### A good ACTIVE frame -/

/-- R175: the lag of a legal pitch code is in [18, 141]. -/
theorem pitchLagOf_range {code : BitVec 7} (h : ¬pitchForbidden code = true) :
    18 ≤ (pitchLagOf code).toNat ∧ (pitchLagOf code).toNat ≤ 141 := by
  simp only [pitchForbidden, decide_eq_true_eq] at h
  simp only [pitchLagOf, BitVec.toNat_ofNat, pitchMin]
  omega

/-- R175, R176: legal pitch codes give a lag of at most 141 and a fine lag of at most 3. -/
theorem acbLagsOk_of_unpackPitch {c d : Persistent} {hd : ActiveHeader} (h : unpackPitch c hd = .ok d) : AcbLagsOk d := by
  unfold unpackPitch at h
  split at h
  · cases h
  next h0 =>
    dsimp only at h
    split at h
    · cases h
    next h1 =>
      cases h
      have r0 := pitchLagOf_range h0
      have r1 := pitchLagOf_range h1
      have fine1 := hd.adCbLag1.isLt
      have fine3 := hd.adCbLag3.isLt
      refine acbLagsOk_of_pairs (a := pitchLagOf hd.pitchCode0) (b := pitchLagOf hd.pitchCode1) ?_ (by omega) (by omega)
        ?_ ?_ ?_ ?_
      · ext i hi
        interval_cases i <;> simp
      all_goals simp [subframeAt_setSubframe_other]
      all_goals omega

/-- R178: a gain word leaves the fine lags. -/
theorem acbLagsOk_of_unpackGain {c d : Persistent} {i : Nat} {t : BitVec 12} (hc : AcbLagsOk c)
    (h : unpackGain c i t = .ok d) : AcbLagsOk d := by
  rcases unpackGain_cases c i t with ⟨_, h'⟩ | ⟨_, h'⟩
  · rw [h'] at h
    cases h
  · rw [h', Except.ok.injEq] at h
    subst h
    refine acbLagsOk_setSubframe ?_ i fun _ => rfl
    exact acbLagsOk_setSubframe hc i fun _ => rfl

/-- R173, R175, R176, R179: the fine lags come from the pitch fields; what is read after them leaves the lags. -/
theorem acbLagsOk_of_unpackHeader {c d : Persistent} {rate : Rate} {hd : ActiveHeader}
    (h : unpackHeader c rate hd = .ok d) : AcbLagsOk d := by
  obtain ⟨c0, h0, h⟩ := bind_eq_ok.mp h
  obtain ⟨c1, h1, h⟩ := bind_eq_ok.mp h
  obtain ⟨c2, h2, h⟩ := bind_eq_ok.mp h
  obtain ⟨c3, h3, h⟩ := bind_eq_ok.mp h
  obtain ⟨c4, h4, h⟩ := bind_eq_ok.mp h
  cases h
  have hc4 : AcbLagsOk c4 := acbLagsOk_of_unpackGain (acbLagsOk_of_unpackGain (acbLagsOk_of_unpackGain
    (acbLagsOk_of_unpackGain (acbLagsOk_of_unpackPitch h0) h1) h2) h3) h4
  refine acbLagsOk_setSubframe ?_ 3 fun _ => rfl
  refine acbLagsOk_setSubframe ?_ 2 fun _ => rfl
  refine acbLagsOk_setSubframe ?_ 1 fun _ => rfl
  exact acbLagsOk_setSubframe hc4 0 fun _ => rfl

/-- R180–R182: a pulse field leaves the lags. -/
theorem acbLagsOk_writePulse {c : Persistent} (hc : AcbLagsOk c) (i : Nat) (pos : BitVec 32) (sign : BitVec 8) :
    AcbLagsOk (writePulse c i pos sign) := acbLagsOk_setSubframe hc i fun _ => rfl

theorem acbLagsOk_of_unpack63 {f : Frame63} {c d : Persistent} (h : unpack63 f c = .ok d) : AcbLagsOk d := by
  obtain ⟨c0, h0, h⟩ := bind_eq_ok.mp h
  cases h
  exact acbLagsOk_writePulse (acbLagsOk_writePulse (acbLagsOk_writePulse (acbLagsOk_writePulse
    (acbLagsOk_of_unpackHeader h0) _ _ _) _ _ _) _ _ _) _ _ _

theorem acbLagsOk_of_unpack53 {f : Frame53} {c d : Persistent} (h : unpack53 f c = .ok d) : AcbLagsOk d := by
  obtain ⟨c0, h0, h⟩ := bind_eq_ok.mp h
  cases h
  exact acbLagsOk_writePulse (acbLagsOk_writePulse (acbLagsOk_writePulse (acbLagsOk_writePulse
    (acbLagsOk_of_unpackHeader h0) _ _ _) _ _ _) _ _ _) _ _ _

/-! ### A comfort-noise frame -/

/-- R340: a draw is below its base. -/
theorem cngValue_lt (seed : BitVec 16) {base : Nat} (hb : 0 < base) : cngValue seed base < base := by
  have hdraw : seed.toNat % 32768 < 32768 := Nat.mod_lt _ (by decide)
  exact Nat.div_lt_of_lt_mul (Nat.mul_lt_mul_of_pos_right hdraw hb)

/-- R346: the drawn lags. -/
theorem noiseDraws_lags (seed : BitVec 16) :
    (123 ≤ (noiseDraws seed).lag0 ∧ (noiseDraws seed).lag0 ≤ 143)
      ∧ 123 ≤ (noiseDraws seed).lag1 ∧ (noiseDraws seed).lag1 ≤ 141 := by
  have h0 : (noiseDraws seed).lag0 = cngValue (cngSeed seed) 21 + 123 := rfl
  have h1 : (noiseDraws seed).lag1 = cngValue (cngSeed (cngSeed seed)) 19 + 123 := rfl
  have r0 := cngValue_lt (cngSeed seed) (base := 21) (by decide)
  have r1 := cngValue_lt (cngSeed (cngSeed seed)) (base := 19) (by decide)
  omega

/-- R346: the fine lags of a comfort-noise frame are those of the parameter. -/
theorem writeDraws_adCbLag (p : Params) (d : NoiseDraws) (c : Persistent) {s : Nat} (hs : s < 4) :
    (subframeAt (writeDraws p d c) s).adCbLag = cell p.cngAdaptiveCbLag s := by
  unfold writeDraws
  interval_cases s <;> simp [subframeAt_setSubframe_other]

/-- R346: drawn lags of at most 143 and 141 with the fine lags of the parameter stay inside the history. -/
theorem acbLagsOk_writeDraws {p : Params} (hp : NoiseLagsOk p) (seed : BitVec 16) (c : Persistent) :
    AcbLagsOk (writeDraws p (noiseDraws seed) c) := by
  obtain ⟨⟨lo0, hi0⟩, lo1, hi1⟩ := noiseDraws_lags seed
  obtain ⟨fine0, fine1⟩ := hp
  have fine2 := (cell p.cngAdaptiveCbLag 2).isLt
  have fine3 := (cell p.cngAdaptiveCbLag 3).isLt
  have ha : (BitVec.ofNat 8 (noiseDraws seed).lag0).toNat = (noiseDraws seed).lag0 := by
    rw [BitVec.toNat_ofNat]; omega
  have hb : (BitVec.ofNat 8 (noiseDraws seed).lag1).toNat = (noiseDraws seed).lag1 := by
    rw [BitVec.toNat_ofNat]; omega
  refine acbLagsOk_of_pairs (writeDraws_pitchLag p (noiseDraws seed) c) ?_ ?_ ?_ ?_ ?_ ?_ <;>
    simp only [writeDraws_adCbLag, Nat.reduceLT, ha, hb] <;> omega

/-! ### A concealed frame -/

/-- What UNPACK wrote before it ended, with success or with a failure, has the property. -/
def Leaves (Q : Persistent → Prop) (u : Unpacked) : Prop := (∀ c, u = .ok c → Q c) ∧ ∀ c, u = .error c → Q c

theorem leaves_ok {Q : Persistent → Prop} {c : Persistent} (h : Q c) : Leaves Q (.ok c) :=
  ⟨fun _ hc => by cases hc; exact h, fun _ hc => nomatch hc⟩

theorem leaves_error {Q : Persistent → Prop} {c : Persistent} (h : Q c) : Leaves Q (.error c) :=
  ⟨fun _ hc => (nomatch hc), fun _ hc => by cases hc; exact h⟩

theorem leaves_bind {Q : Persistent → Prop} {u : Unpacked} {f : Persistent → Unpacked} (hu : Leaves Q u)
    (hf : ∀ c, Q c → Leaves Q (f c)) : Leaves Q (u >>= f) := by
  cases u with
  | ok c => exact hf c (hu.1 c rfl)
  | error c => exact leaves_error (hu.2 c rfl)

/-- R42: the concealment index has the value `k`. -/
def IndexIs (k : I32) (c : Persistent) : Prop := c.interpIndex = k

@[simp] theorem indexIs_iff {k : I32} {c : Persistent} : IndexIs k c ↔ c.interpIndex = k := Iff.rfl

theorem unpackPitch_leaves_index {k : I32} {c : Persistent} (hc : IndexIs k c) (hd : ActiveHeader) :
    Leaves (IndexIs k) (unpackPitch c hd) := by
  unfold unpackPitch
  dsimp only
  split
  · exact leaves_error hc
  · split
    · exact leaves_error (by simpa using hc)
    · exact leaves_ok (by simpa using hc)

theorem unpackGain_leaves_index {k : I32} {c : Persistent} (hc : IndexIs k c) (i : Nat) (t : BitVec 12) :
    Leaves (IndexIs k) (unpackGain c i t) := by
  rcases unpackGain_cases c i t with ⟨_, h⟩ | ⟨_, h⟩
  · rw [h]
    exact leaves_error (by simpa using hc)
  · rw [h]
    exact leaves_ok (by simpa using hc)

theorem unpackHeader_leaves_index {k : I32} {c : Persistent} (hc : IndexIs k c) (rate : Rate) (hd : ActiveHeader) :
    Leaves (IndexIs k) (unpackHeader c rate hd) := by
  refine leaves_bind (unpackPitch_leaves_index (by simpa using hc) hd) fun c0 h0 => ?_
  refine leaves_bind (unpackGain_leaves_index h0 0 _) fun c1 h1 => ?_
  refine leaves_bind (unpackGain_leaves_index h1 1 _) fun c2 h2 => ?_
  refine leaves_bind (unpackGain_leaves_index h2 2 _) fun c3 h3 => ?_
  refine leaves_bind (unpackGain_leaves_index h3 3 _) fun c4 h4 => ?_
  exact leaves_ok (by simpa using h4)

theorem unpack63_leaves_index (f : Frame63) (c : Persistent) : Leaves (IndexIs c.interpIndex) (unpack63 f c) :=
  leaves_bind (unpackHeader_leaves_index rfl .r6300 f.header) fun _ h => leaves_ok (by simpa [writePulse] using h)

theorem unpack53_leaves_index (f : Frame53) (c : Persistent) : Leaves (IndexIs c.interpIndex) (unpack53 f c) :=
  leaves_bind (unpackHeader_leaves_index rfl .r5300 f.header) fun _ h => leaves_ok (by simpa [writePulse] using h)

/-! ### The parts of a decode -/

section Decode
variable {P : Fault → Prop}

/-- R241, R375: the excitation of a good ACTIVE frame whose effective lags are inside the history. -/
theorem excitation_faultsOnly (hrom : P .romIndexFault) (hidx : P .indexFault) (p : Params) {c : Persistent}
    (hc : AcbLagsOk c) : FaultsOnly P (excitation p c) := by
  have sub (e : ExcBuf) (s : Nat) (hs : s < 4) : FaultsOnly P (excitationSubframe p c e s) :=
    faultsOnly_bind (fixedCodebook_faultsOnly hrom hidx _ _ _ _ _) fun _ _ =>
      faultsOnly_bind (adaptiveCodebook_faultsOnly hrom _ _ _ _ (hc s hs)) fun _ _ => faultsOnly_ok _
  exact faultsOnly_bind (sub _ 0 (by decide)) fun e0 _ => faultsOnly_bind (sub e0 1 (by decide)) fun e1 _ =>
    faultsOnly_bind (sub e1 2 (by decide)) fun e2 _ => sub e2 3 (by decide)

/-- R274, R375: a good ACTIVE frame. -/
theorem goodActive_faultsOnly (hrom : P .romIndexFault) (hidx : P .indexFault) (p : Params) {c : Persistent}
    (hc : AcbLagsOk c) : FaultsOnly P (goodActive p c) := by
  refine faultsOnly_bind ?_ fun d hd => ?_
  · exact faultsOnly_bind (romRead_faultsOnly hrom _ _) fun _ _ => faultsOnly_ok _
  · obtain ⟨g, _, hd⟩ := bind_eq_ok.mp hd
    cases hd
    exact faultsOnly_bind (excitation_faultsOnly hrom hidx p (acbLagsOk_congr hc rfl rfl)) fun _ _ => faultsOnly_ok _

/-- R276–R279: an erased frame reads the history at `interp_index`, which is inside it. -/
theorem erasedActive_faultsOnly {c : Persistent} (hc : 0 ≤ c.interpIndex.toInt ∧ c.interpIndex.toInt ≤ 146) :
    FaultsOnly P (erasedActive c) := by
  unfold erasedActive
  dsimp only
  split
  · exact faultsOnly_ok _
  · rcases concealResidual_cases (decayGain c) with ⟨_, h⟩ | ⟨hout, _⟩ | ⟨_, _, h⟩
    · rw [h]
      exact faultsOnly_ok _
    · rw [decayGain_interpIndex] at hout
      omega
    · rw [h]
      exact faultsOnly_ok _

/-- R370 step 3: an ACTIVE frame reads its own lags where it is good, and `interp_index` where it is bad. -/
theorem decodeActive_faultsOnly (hrom : P .romIndexFault) (hidx : P .indexFault) (p : Params) {bad : Bool} {c : Persistent}
    (hgood : bad = false → AcbLagsOk c)
    (hbad : bad = true → 0 ≤ c.interpIndex.toInt ∧ c.interpIndex.toInt ≤ 146) :
    FaultsOnly P (decodeActive p bad c) := by
  refine faultsOnly_bind (lspInterp_faultsOnly hrom _ _ _) fun lpc _ => ?_
  refine faultsOnly_bind ?_ fun r _ => faultsOnly_ok _
  unfold activeExcitation
  cases bad with
  | false =>
    rw [if_pos (by simp)]
    exact goodActive_faultsOnly hrom hidx p (acbLagsOk_congr (hgood rfl) (by simp) (by simp))
  | true =>
    rw [if_neg (by simp)]
    exact erasedActive_faultsOnly (by simpa using hbad rfl)

/-- R350: one pair of a comfort-noise excitation. -/
theorem noisePair_faultsOnly (hrom : P .romIndexFault) (p : Params) {c : Persistent} (hc : AcbLagsOk c) (e : ExcBuf) {k : Nat}
    (hk : k < 2) (pos : List Nat) (sign : List Int) : FaultsOnly P (noisePair p c e k pos sign) := by
  have sub (e : ExcBuf) (s : Nat) (hs : s < 4) : FaultsOnly P (noiseSubframe p c e s) :=
    faultsOnly_bind (adaptiveCodebook_faultsOnly hrom _ _ _ _ (hc s hs)) fun _ _ => faultsOnly_ok _
  exact faultsOnly_bind (sub e (2 * k) (by omega)) fun e0 _ =>
    faultsOnly_bind (sub e0 (2 * k + 1) (by omega)) fun _ _ => faultsOnly_ok _

/-- R370 step 4: a comfort-noise frame reads the history at the lags it draws. -/
theorem decodeNoise_faultsOnly (hrom : P .romIndexFault) {p : Params} (hp : NoiseLagsOk p) (c : Persistent) :
    FaultsOnly P (decodeNoise p c) := by
  have pair (c : Persistent) (e : ExcBuf) (k : Nat) (hk : k < 2) (pos : List Nat) (sign : List Int) :
      FaultsOnly P (noisePair p (writeDraws p (noiseDraws c.cngRandomSeed) c) e k pos sign) :=
    noisePair_faultsOnly hrom p (acbLagsOk_writeDraws hp _ c) e hk pos sign
  refine faultsOnly_bind ?_ fun r _ => faultsOnly_bind (lspInterp_faultsOnly hrom _ _ _) fun _ _ => faultsOnly_ok _
  exact faultsOnly_bind (pair _ _ 0 (by decide) _ _) fun e _ =>
    faultsOnly_bind (pair _ e 1 (by decide) _ _) fun _ _ => faultsOnly_ok _

/-- R370: what a frame of either kind needs of the state UNPACK left. -/
theorem decodeByType_faultsOnly (hrom : P .romIndexFault) (hidx : P .indexFault) {p : Params} (hp : NoiseLagsOk p)
    {bad : Bool} {c : Persistent} (hgood : bad = false → c.curFrameType = .active → AcbLagsOk c)
    (hbad : 0 ≤ c.interpIndex.toInt ∧ c.interpIndex.toInt ≤ 146) : FaultsOnly P (decodeByType p bad c) := by
  unfold decodeByType
  split
  next htype => exact decodeActive_faultsOnly hrom hidx p (fun h => hgood h htype) fun _ => hbad
  next => exact decodeNoise_faultsOnly hrom hp c
  next => exact decodeNoise_faultsOnly hrom hp c

end Decode

/-! ### The instructions -/

/-- What the lag guards need of an unpacker: a good ACTIVE frame leaves effective lags inside the history, and no frame writes
`interp_index`. -/
structure UnpackKeepsLags (unpack : Persistent → Unpacked) : Prop where
  good : ∀ c d, unpack c = .ok d → d.curFrameType = .active → AcbLagsOk d
  index : ∀ c, Leaves (IndexIs c.interpIndex) (unpack c)

theorem unpack63_keepsLags (f : Frame63) : UnpackKeepsLags (unpack63 f) where
  good := fun _ _ h _ => acbLagsOk_of_unpack63 h
  index := unpack63_leaves_index f

theorem unpack53_keepsLags (f : Frame53) : UnpackKeepsLags (unpack53 f) where
  good := fun _ _ h _ => acbLagsOk_of_unpack53 h
  index := unpack53_leaves_index f

/-- R174: a SID frame is never ACTIVE. -/
theorem unpackSid_keepsLags (f : SidFrame) : UnpackKeepsLags (unpackSid f) where
  good := fun c d h htype => by
    cases h
    simp at htype
  index := fun _ => leaves_ok (by simp)

/-- R172: an UNTRANSMITTED frame is never ACTIVE. -/
theorem unpackUntx_keepsLags : UnpackKeepsLags unpackUntx where
  good := fun _ _ h htype => by
    cases h
    cases htype
  index := fun _ => leaves_ok rfl

/-- The bad-frame remap does not write `interp_index` (R186). -/
theorem remapped_interpIndex {k : I32} {u : Unpacked} (h : Leaves (IndexIs k) u) : (remapped u).interpIndex = k := by
  obtain ⟨hok, herr⟩ := h
  rcases remapped_cases u with ⟨c, hu, _, hr⟩ | ⟨c, hu, _, _, hr⟩ | ⟨c, hu, _, _, hr⟩
  · rw [hr]
    exact hok c hu
  · rw [hr]
    exact herr c hu
  · rw [hr]
    exact herr c hu

/-- R42, R272: under the invariant the concealment index is inside the history. -/
theorem interpIndex_range {c : Persistent} (h : c.Inv) : 0 ≤ c.interpIndex.toInt ∧ c.interpIndex.toInt ≤ 146 := by
  rcases h.interpIndex with h0 | ⟨hlo, hhi⟩
  · simp [h0]
  · exact ⟨by omega, hhi⟩

/-- R405, R406: the faults the rules name. -/
def RuleFault (e : Fault) : Prop := e = .romIndexFault ∨ e = .indexFault

/-- R370: from a state with the invariant, a decode stops only as the rules name. -/
theorem runFrame_ruleFault {unpack : Persistent → Unpacked} (hu : UnpackKeepsLags unpack) (size : Nat) {s : State}
    (hs : s.Inv) (hp : NoiseLagsOk s.params) : FaultsOnly RuleFault (runFrame size unpack s) := by
  rcases runFrame_cases size unpack s with ⟨_, h⟩ | ⟨_, ⟨e, he, h⟩ | ⟨c, out, _, h⟩⟩
  · rw [h]
    exact faultsOnly_ok _
  · rw [h]
    refine faultsOnly_error ?_
    have hdecode : FaultsOnly RuleFault (decodeUnpacked s.params (unpack s.core)) := by
      refine faultsOnly_bind (decodeByType_faultsOnly (.inl rfl) (.inr rfl) hp ?_ ?_) fun _ _ => faultsOnly_ok _
      · intro hok htype
        rcases remapped_cases (unpack s.core) with ⟨c, hc, _, hr⟩ | ⟨c, _, hbad, _⟩ | ⟨c, _, hbad, _⟩
        · rw [hr] at htype ⊢
          exact hu.good s.core c hc htype
        · simp [hbad] at hok
        · simp [hbad] at hok
      · rw [remapped_interpIndex (hu.index s.core)]
        exact interpIndex_range hs.core
    exact hdecode e he
  · rw [h]
    exact faultsOnly_ok _

/-- R405, R406: from a state with the invariant, an instruction stops only as the rules name. -/
theorem exec_ruleFault {i : Instr} {s : State} {e : Fault} (hs : s.Inv) (hp : NoiseLagsOk s.params)
    (h : exec i s = .fault e) : RuleFault e := by
  have frame {unpack : Persistent → Unpacked} (hu : UnpackKeepsLags unpack) (size : Nat)
      (h : toOutcome (runFrame size unpack s) = .fault e) : RuleFault e :=
    runFrame_ruleFault hu size hs hp e (toOutcome_eq_fault.mp h)
  cases i with
  | nop => cases h
  | reset => cases h
  | frame63 f => exact frame (unpack63_keepsLags f) 24 h
  | frame53 f => exact frame (unpack53_keepsLags f) 20 h
  | sid f => exact frame (unpackSid_keepsLags f) 4 h
  | untx b => exact frame unpackUntx_keepsLags 1 h
  | decode =>
    replace h : execDecode s = .fault e := h
    unfold execDecode at h
    dsimp only at h
    split at h
    · exact frame (unpack63_keepsLags _) 24 h
    · split at h
      · exact frame (unpack53_keepsLags _) 20 h
      · split at h
        · exact frame (unpackSid_keepsLags _) 4 h
        · exact frame unpackUntx_keepsLags 1 h

/-! ### Indices and windows -/

/-- R238: the residual window tiles the last samples of the history. -/
theorem residualIndex_lt {lag : Nat} (hlo : 1 ≤ lag) (hhi : lag ≤ 144) (i : Nat) : residualIndex lag i < 146 := by
  unfold residualIndex
  split
  · omega
  · have htile : (i - 2) % lag < lag := Nat.mod_lt _ hlo
    omega

/-- R277: the voiced residual tiles the last `lag` samples of the history. -/
theorem voicedIndex_range {lag : Nat} (hlo : 1 ≤ lag) (i : Nat) :
    voicedIndex lag i < 146 ∧ 146 ≤ voicedIndex lag i + lag := by
  have htile : i % lag < lag := Nat.mod_lt _ hlo
  unfold voicedIndex
  omega

/-- R270: a searched lag is in [15, 146], and a forward window ends in the buffer. -/
theorem search_range {lag b n : Nat} {dir : SearchDir} {i : Int} (hlag : 18 ≤ lag) (hlo : searchCentre lag - 3 ≤ i)
    (hhi : i ≤ searchHi b lag n dir) : 15 ≤ i ∧ i ≤ 146 ∧ (dir = .forward → (b : Int) + i + n ≤ 386) := by
  unfold searchCentre at hlo
  cases dir with
  | forward =>
    simp only [searchHi, searchCentre] at hhi
    omega
  | backward =>
    simp only [searchHi, searchCentre] at hhi
    exact ⟨by omega, by omega, nofun⟩

/-- R270: a window that starts at least 146 samples into the excitation buffer and ends at most at its end stays inside it at every
searched lag. -/
theorem correlationWindow_inBuffer {lag b n : Nat} {dir : SearchDir} {i : Int} (hlag : 18 ≤ lag) (hb : 146 ≤ b)
    (hn : b + n ≤ 386) (hlo : searchCentre lag - 3 ≤ i) (hhi : i ≤ searchHi b lag n dir) :
    0 ≤ (b : Int) + dirMul dir i ∧ (b : Int) + dirMul dir i + n ≤ 386 := by
  obtain ⟨h15, h146, hfwd⟩ := search_range hlag hlo hhi
  cases dir with
  | forward =>
    have hend := hfwd rfl
    simp only [dirMul]
    omega
  | backward =>
    simp only [dirMul]
    omega

/-- Settles O60: the guards never fire because every fault is one the rules name, and the indices and windows are in range for every
lag that passes. -/
theorem historyIndicesStayInRange : Obligations.HistoryIndicesStayInRange := by
  refine ⟨?_, ?_, ?_, ?_⟩
  · intro i s hs hp h
    rcases exec_ruleFault hs hp h with h | h <;> cases h
  · exact fun lag i hlo hhi _ => residualIndex_lt hlo hhi i
  · exact fun lag i hlo _ _ => voicedIndex_range hlo i
  · intro lag b n dir i hlag _ hcall hlo hhi
    have hwindow : 146 ≤ b ∧ b + n ≤ 386 := by
      rcases hcall with ⟨hb, hn, _⟩ | ⟨hn, j, hj, hb⟩ <;> omega
    exact correlationWindow_inBuffer hlag hwindow.1 hwindow.2 hlo hhi

end Sys2Proof.Proofs
end

section
/-! The invariant of the machine (10_state.md R52) and the range of the concealment gain memory (R42). A step is shown once to be made
of a few parts, so that each property is proved of those parts; the part with content is the decode of a frame, which is followed
through UNPACK, the excitation of its frame type, and the common tail. -/

namespace Sys2Proof.Proofs
open Sys2Proof.Machine

/-! ### The parts of a step -/

/-- A property of the machine that each part of a step keeps: the host's own fields, a stored byte, BadCommand, an instruction. -/
structure KeptByParts (P : State → Prop) : Prop where
  pending : ∀ {s : State} (l : List HostAccess), P s → P { s with pending := l }
  readData : ∀ {s : State} (d : BitVec 32), P s → P { s with readData := d }
  store : ∀ {s : State} (a : Nat) (v : Byte), P s → P (storeByte s a v)
  badCommand : ∀ {s : State}, P s → P (raiseBadCommand s)
  exec : ∀ {i : Instr} {s t : State}, P s → exec i s = .next t → P t

section Steps
variable {P : State → Prop}

theorem writeByte_keeps (hP : KeptByParts P) {s t : State} {a : Nat} {v : Byte} (hs : P s) (h : writeByte s a v = .next t) :
    P t := by
  rcases writeByte_cases s a v with ⟨_, hw⟩ | ⟨_, _, hw⟩ | ⟨_, hw⟩ <;> rw [hw] at h
  · rcases runCommand_cases v s with ⟨_, hr⟩ | ⟨_, hr⟩ | ⟨_, hr⟩ | ⟨_, _, _, hr⟩ <;> rw [hr] at h
    · exact hP.exec hs h
    · exact hP.exec hs h
    · exact hP.exec hs h
    · cases h
      exact hP.badCommand hs
  · cases h
    exact hP.store a v hs
  · cases h

/-- R74: the bytes of a write are performed one after another. -/
theorem writeBytes_keeps (hP : KeptByParts P) {s t : State} {a : Nat} {vs : List Byte} (hs : P s)
    (h : writeBytes s a vs = .next t) : P t := by
  induction vs generalizing s a with
  | nil =>
    cases h
    exact hs
  | cons v vs ih =>
    unfold writeBytes at h
    split at h
    next u hu => exact ih (writeByte_keeps hP hs hu) h
    next => cases h
    next => cases h

/-- R78: what each part keeps, a step keeps. -/
theorem step_keeps (hP : KeptByParts P) {s t : State} (hs : P s) (h : step s = .next t) : P t := by
  cases hpend : s.pending with
  | nil =>
    simp only [step, hostStep, hpend] at h
    cases h
    exact hs
  | cons a rest =>
    rw [step_of_pending hpend] at h
    have hs' := hP.pending rest hs
    cases a with
    | read off w =>
      simp only [hostAccess] at h
      split at h
      · cases h
        exact hP.readData _ hs'
      · cases h
    | write off w v => exact writeBytes_keeps hP hs' h

end Steps

/-- The four frame instructions (R386–R389): the bytes of the frame and what UNPACK does. -/
inductive IsFrame : Nat → (Persistent → Unpacked) → Prop where
  | frame63 (f : Frame63) : IsFrame 24 (unpack63 f)
  | frame53 (f : Frame53) : IsFrame 20 (unpack53 f)
  | sid (f : SidFrame) : IsFrame 4 (unpackSid f)
  | untx : IsFrame 1 unpackUntx

/-- R101: no frame is longer than 24 bytes. -/
theorem IsFrame.size_le {size : Nat} {unpack : Persistent → Unpacked} (h : IsFrame size unpack) : size ≤ 24 := by
  cases h <;> omega

/-- R384–R389, R370: an instruction that goes on did nothing, reset the machine, or decoded a frame. -/
theorem exec_next_cases {i : Instr} {s t : State} (h : exec i s = .next t) :
    t = s ∨ t = { s with core := Persistent.reset s.params.rom.dcLsp s.core.postfilter, regs := HostRegs.reset }
      ∨ ∃ size unpack, IsFrame size unpack ∧ runFrame size unpack s = .ok t := by
  have frame {size : Nat} {unpack : Persistent → Unpacked} (hf : IsFrame size unpack)
      (h : toOutcome (runFrame size unpack s) = .next t) :
      ∃ size unpack, IsFrame size unpack ∧ runFrame size unpack s = .ok t := ⟨size, unpack, hf, toOutcome_eq_next.mp h⟩
  cases i with
  | nop =>
    cases h
    exact .inl rfl
  | reset =>
    cases h
    exact .inr (.inl rfl)
  | frame63 f => exact .inr (.inr (frame (.frame63 f) h))
  | frame53 f => exact .inr (.inr (frame (.frame53 f) h))
  | sid f => exact .inr (.inr (frame (.sid f) h))
  | untx b => exact .inr (.inr (frame .untx h))
  | decode =>
    replace h : execDecode s = .next t := h
    unfold execDecode at h
    dsimp only at h
    refine .inr (.inr ?_)
    split at h
    · exact frame (.frame63 _) h
    · split at h
      · exact frame (.frame53 _) h
      · split at h
        · exact frame (.sid _) h
        · exact frame .untx h

/-- R370: a frame that is not short leaves the core its decode ends with, and reports it. -/
theorem runFrame_ok {size : Nat} {unpack : Persistent → Unpacked} {s t : State} (h : runFrame size unpack s = .ok t) :
    (s.regs.inLen.toNat < size ∧ t = raiseShortFrame s)
      ∨ ∃ j, decodeByType s.params (badFrame (unpack s.core)) (remapped (unpack s.core)) = .ok j
        ∧ t = { s with
          core := (finish s.params j).1
          regs := reportDecode size (badFrame (unpack s.core)) (finish s.params j).2 s.regs } := by
  rcases runFrame_cases size unpack s with ⟨hlen, hr⟩ | ⟨_, ⟨e, _, hr⟩ | ⟨c, out, hd, hr⟩⟩ <;> rw [hr] at h
  · cases h
    exact .inl ⟨hlen, rfl⟩
  · cases h
  · obtain ⟨j, hj, hfin⟩ := decodeUnpacked_ok hd
    rw [Except.ok.injEq] at h
    exact .inr ⟨j, hj, by rw [← h, ← hfin]⟩

/-! ### What UNPACK leaves -/

/-- UNPACK leaves a state with `Q` where it succeeded and one with `E` where it failed. -/
def Ends (Q E : Persistent → Prop) (u : Unpacked) : Prop := (∀ c, u = .ok c → Q c) ∧ ∀ c, u = .error c → E c

section Unpacker
variable {Q R E : Persistent → Prop}

theorem ends_ok {c : Persistent} (h : Q c) : Ends Q E (.ok c) := ⟨fun _ hc => by cases hc; exact h, fun _ hc => nomatch hc⟩

theorem ends_error {c : Persistent} (h : E c) : Ends Q E (.error c) :=
  ⟨fun _ hc => (nomatch hc), fun _ hc => by cases hc; exact h⟩

theorem ends_bind {u : Unpacked} {f : Persistent → Unpacked} (hu : Ends Q E u) (hf : ∀ c, Q c → Ends R E (f c)) :
    Ends R E (u >>= f) := by
  cases u with
  | ok c => exact hf c (hu.1 c rfl)
  | error c => exact ends_error (hu.2 c rfl)

/-- The bad-frame remap writes the frame type only (R186). -/
theorem remapped_keeps {u : Unpacked} (hu : Ends Q Q u) (hQ : ∀ c ty, Q c → Q { c with curFrameType := ty }) :
    Q (remapped u) := by
  cases u with
  | ok c => exact hQ c _ (hu.1 c rfl)
  | error c => exact hQ c _ (hu.2 c rfl)

/-- A gain index that a table of R178 has. -/
abbrev GainIndexOk (sf : Subframe) : Prop := sf.adCbGain.toNat ≤ 169

/-- The property survives a write to a subframe record that leaves its gain index in range. -/
def RecordClosed (Q : Persistent → Prop) : Prop :=
  ∀ (c : Persistent) (i : Nat) (g : Subframe → Subframe), (∀ sf, GainIndexOk sf → GainIndexOk (g sf)) → Q c → Q (setSubframe c i g)

/-- R178: no table has more than 170 rows. -/
theorem gainOperand_tableLen_le (rate : Rate) (lag : Nat) (t : BitVec 12) : (gainOperand rate lag t).tableLen ≤ 170 := by
  unfold gainOperand
  split <;> simp

/-- R178: a gain word that passes its check writes a gain index in range. -/
theorem unpackGain_ends (hQ : RecordClosed Q) (hE : ∀ c, Q c → E c) {c : Persistent} (hc : Q c) (i : Nat) (t : BitVec 12) :
    Ends Q E (unpackGain c i t) := by
  rcases unpackGain_cases c i t with ⟨_, h⟩ | ⟨hlt, h⟩ <;> rw [h]
  · exact ends_error (hE _ (hQ c i _ (fun _ hsf => hsf) hc))
  · have hlen := gainOperand_tableLen_le c.curRate (lagOf c i) t
    refine ends_ok (hQ _ i _ (fun _ _ => ?_) (hQ c i _ (fun _ hsf => hsf) hc))
    show (BitVec.ofNat 8 _).toNat ≤ 169
    rw [BitVec.toNat_ofNat]
    omega

/-- R173, R175, R178, R179: after the pitch fields only subframe records are written. -/
theorem unpackHeader_ends (hQ : RecordClosed Q) (hE : ∀ c, Q c → E c) {c : Persistent} {rate : Rate} {hd : ActiveHeader}
    (hpitch : Ends Q E (unpackPitch
      { writeLspIndex c hd.lspIndex2 hd.lspIndex1 hd.lspIndex0 with curRate := rate, curFrameType := .active } hd)) :
    Ends Q E (unpackHeader c rate hd) := by
  refine ends_bind hpitch fun c0 h0 => ?_
  refine ends_bind (unpackGain_ends hQ hE h0 0 _) fun c1 h1 => ?_
  refine ends_bind (unpackGain_ends hQ hE h1 1 _) fun c2 h2 => ?_
  refine ends_bind (unpackGain_ends hQ hE h2 2 _) fun c3 h3 => ?_
  refine ends_bind (unpackGain_ends hQ hE h3 3 _) fun c4 h4 => ?_
  have keep {c : Persistent} (hc : Q c) (i : Nat) (b : BitVec 1) :
      Q (setSubframe c i fun sf => { sf with gridIndex := b }) := hQ c i _ (fun _ hsf => hsf) hc
  exact ends_ok (keep (keep (keep (keep h4 0 _) 1 _) 2 _) 3 _)

theorem writePulse_keeps (hQ : RecordClosed Q) {c : Persistent} (hc : Q c) (i : Nat) (pos : BitVec 32) (sign : BitVec 8) :
    Q (writePulse c i pos sign) := hQ c i _ (fun _ hsf => hsf) hc

/-- R170–R182: what UNPACK leaves of the state `c`, whatever the frame, follows from what the pitch fields, the indices and the frame
type leave. -/
theorem unpack_ends {size : Nat} {unpack : Persistent → Unpacked} (hf : IsFrame size unpack) {c : Persistent}
    (hQ : RecordClosed Q) (hE : ∀ c, Q c → E c)
    (hpitch : ∀ rate hd, Ends Q E (unpackPitch
      { writeLspIndex c hd.lspIndex2 hd.lspIndex1 hd.lspIndex0 with curRate := rate, curFrameType := .active } hd))
    (hsid : ∀ idx, Q { c with lspIndex := idx, curFrameType := .sid }) (huntx : Q { c with curFrameType := .untransmitted }) :
    Ends Q E (unpack c) := by
  have pulse {c : Persistent} (hc : Q c) := writePulse_keeps hQ hc
  cases hf with
  | frame63 f =>
    exact ends_bind (unpackHeader_ends hQ hE (hpitch .r6300 f.header)) fun _ h =>
      ends_ok (pulse (pulse (pulse (pulse h _ _ _) _ _ _) _ _ _) _ _ _)
  | frame53 f =>
    exact ends_bind (unpackHeader_ends hQ hE (hpitch .r5300 f.header)) fun _ h =>
      ends_ok (pulse (pulse (pulse (pulse h _ _ _) _ _ _) _ _ _) _ _ _)
  | sid f => exact ends_ok (hQ _ 0 _ (fun _ hsf => hsf) (hsid _))
  | untx => exact ends_ok huntx

end Unpacker

/-! ### The parts of a decode -/

/-- R274, R375: the fields a good ACTIVE frame writes. -/
theorem goodActive_ok {p : Params} {c : Persistent} {r : Persistent × Vector I16 240} (h : goodActive p c = .ok r) :
    ∃ k g e, romRead p.rom.fixedCbGain k = .ok g
      ∧ r.1 = { classify { c with interpGain := BitVec.ofInt 32 g } (scaleVector e) (scaleShift e) with
        prevExcitation := slice e 240 146 } := by
  obtain ⟨d, hd, h⟩ := bind_eq_ok.mp h
  obtain ⟨g, hg, hd⟩ := bind_eq_ok.mp hd
  cases hd
  obtain ⟨e, _, h⟩ := bind_eq_ok.mp h
  cases h
  exact ⟨_, g, e, hg, rfl⟩

/-- R275–R279: the fields an erased ACTIVE frame writes, after the decay of its gain. -/
theorem erasedActive_ok {c : Persistent} {r : Persistent × Vector I16 240} (h : erasedActive c = .ok r) :
    r.1 = mute (decayGain c) ∨ ∃ seed out, r.1 = handOff { decayGain c with randomSeed := seed } out := by
  unfold erasedActive at h
  dsimp only at h
  split at h
  · cases h
    exact .inl rfl
  · rcases concealResidual_cases (decayGain c) with ⟨_, hr⟩ | ⟨_, hr⟩ | ⟨_, _, hr⟩ <;> rw [hr] at h
    · cases h
      exact .inr ⟨_, _, rfl⟩
    · cases h
    · cases h
      exact .inr ⟨_, _, rfl⟩

/-- R370 step 3, R373: a good ACTIVE frame clears the erasure count, and a bad one raises it to at most 3. -/
theorem decodeActive_cases {p : Params} {bad : Bool} {c : Persistent} {j : SynthesisJob} (h : decodeActive p bad c = .ok j) :
    ∃ lsp r, j.core = resetCngSeed r.1
      ∧ ((bad = false ∧ goodActive p { c with erasedFrames := 0, prevLsp := lsp } = .ok r)
        ∨ (bad = true ∧ erasedActive { c with erasedFrames := min (c.erasedFrames + 1) 3, prevLsp := lsp } = .ok r)) := by
  obtain ⟨lpc, r, _, hr, rfl⟩ := decodeActive_ok h
  refine ⟨activeLsp p (countErasure bad c) bad, r, rfl, ?_⟩
  unfold activeExcitation at hr
  cases bad with
  | false =>
    rw [if_pos (by simp)] at hr
    exact .inl ⟨rfl, hr⟩
  | true =>
    rw [if_neg (by simp)] at hr
    exact .inr ⟨rfl, hr⟩

/-- R377, R378, R341: the fields a comfort-noise frame writes. -/
theorem decodeNoise_core {p : Params} {c : Persistent} {j : SynthesisJob} (h : decodeNoise p c = .ok j) :
    ∃ seed exc lsp, j.core = { writeDraws p (noiseDraws seed) (smoothCurGain p (sidUpdate p c)) with
      prevExcitation := exc, prevLsp := lsp } := by
  obtain ⟨r, lpc, hr, _, rfl⟩ := decodeNoise_ok h
  obtain ⟨e0, e, _, _, rfl⟩ := generateNoise_ok hr
  exact ⟨(smoothCurGain p (sidUpdate p c)).cngRandomSeed, slice e 240 146, _, rfl⟩

/-- R370 steps 3, 4: an ACTIVE frame has its own part, and SID and UNTRANSMITTED frames share theirs. -/
theorem decodeByType_cases {p : Params} {bad : Bool} {c : Persistent} {j : SynthesisJob} (h : decodeByType p bad c = .ok j) :
    (c.curFrameType = .active ∧ decodeActive p bad c = .ok j) ∨ (c.curFrameType ≠ .active ∧ decodeNoise p c = .ok j) := by
  unfold decodeByType at h
  split at h
  next hty => exact .inl ⟨hty, h⟩
  next hty => exact .inr ⟨by simp [hty], h⟩
  next hty => exact .inr ⟨by simp [hty], h⟩

/-! ### Ranges of the primitives -/

/-- R146: a square root adds at most the powers of two from 2^14 down, each half of what is left to 2^15. -/
theorem squareRoot_range (v : Int) : 0 ≤ squareRoot v ∧ squareRoot v ≤ 32768 := by
  have hinv := loop_invariant (fun x : Int × Int => 0 ≤ x.1 ∧ 0 ≤ x.2 ∧ x.1 + 2 * x.2 ≤ 32768) 14 (0, 0x4000)
    (fun p _ => squareRootStep v p) (by omega) fun _ x _ hx => by
      unfold squareRootStep asr
      dsimp only
      split <;> omega
  unfold squareRoot
  omega

/-- R148: the shift of a normalized vector. -/
theorem scaleShift_range {n : Nat} (src : Vector I16 n) : -3 ≤ scaleShift src ∧ scaleShift src ≤ 11 := by
  have hlog : 0 ≤ log2Floor (maxAbs src) := Int.natCast_nonneg _
  unfold scaleShift scaleBits normalizeBits
  omega

/-- R272: an energy rounded to 16 bits. -/
theorem round16_range {x : Int} (hlo : 0 ≤ x) : 0 ≤ round16 x ∧ round16 x ≤ 32767 := by
  have hsum : 0 ≤ satAdd32 x 32768 ∧ satAdd32 x 32768 ≤ 2147483647 := by
    unfold satAdd32 clip32 clip
    split
    · omega
    · split <;> omega
  unfold round16 asr
  omega

theorem excEnergy_range (y : ExcBuf) : 0 ≤ excEnergy y ∧ excEnergy y ≤ 32767 := round16_range (dot_self_nonneg _ _)

/-- R270: the search answers 0 or one of the lags it looked at. -/
theorem autocorrMax_lag (y : ExcBuf) (b lag n : Nat) (dir : SearchDir) :
    (autocorrMax y b lag n dir).1 = 0
      ∨ (searchCentre lag - 3 ≤ (autocorrMax y b lag n dir).1 ∧ (autocorrMax y b lag n dir).1 ≤ searchHi b lag n dir) := by
  unfold autocorrMax
  dsimp only
  refine loop_invariant (fun best : Int × Int =>
    best.1 = 0 ∨ (searchCentre lag - 3 ≤ best.1 ∧ best.1 ≤ searchHi b lag n dir)) _ _ _ (.inl rfl) fun k best hk hbest => ?_
  split
  · exact .inr (by dsimp only; omega)
  · exact hbest

/-- R272: the concealment lag of a frame whose pitch lag was read. -/
theorem interpIndexOf_range (y : ExcBuf) {lag : Nat} (hlag : 18 ≤ lag) :
    interpIndexOf y lag = 0 ∨ (15 ≤ interpIndexOf y lag ∧ interpIndexOf y lag ≤ 146) := by
  unfold interpIndexOf
  dsimp only
  split
  · exact .inl rfl
  · split
    · refine (autocorrMax_lag y 266 lag 120 .backward).imp_right fun ⟨hlo, hhi⟩ => ?_
      obtain ⟨h15, h146, _⟩ := search_range hlag hlo hhi
      exact ⟨h15, h146⟩
    · exact .inl rfl

/-- R361: the target of a 6-bit gain. -/
theorem sidGainToLspIndex_range {g : Int} (hlo : 0 ≤ g) (hhi : g ≤ 63) :
    0 ≤ sidGainToLspIndex g ∧ sidGainToLspIndex g ≤ 11008 := by
  unfold sidGainToLspIndex shl
  split
  · omega
  · split <;> omega

/-- R360: the estimate is a 6-bit gain, whichever algorithm gives it. -/
theorem estimateSidGain_range (p : Params) (sidGain curGain : Int) :
    0 ≤ estimateSidGain p sidGain curGain ∧ estimateSidGain p sidGain curGain ≤ 63 := by
  unfold estimateSidGain
  split
  · unfold rulesSidGain
    split
    · omega
    · exact clip_range _ (by omega)
  · have := (Config.otherSidGain sidGain curGain p.rom).isLt
    omega

/-- R347: the gain indices of a comfort-noise frame. -/
theorem noiseDraws_gain_le (seed : BitVec 16) {i : Nat} (hi : i < 4) : (noiseDraws seed).gains.getD i 0 ≤ 50 := by
  have draw (s : BitVec 16) : cngValue s 50 + 1 ≤ 50 := cngValue_lt s (by decide)
  interval_cases i <;> exact draw _

/-! ### The post-filter gain -/

/-- R42, R43, R44: a value that is not negative and fits 16 bits. -/
abbrev NonnegI16 (x : I32) : Prop := 0 ≤ x.toInt ∧ x.toInt ≤ 32767

/-- A value that fits 16 bits is stored as it is in 32. -/
theorem toInt_ofInt_of_fits16 {x : Int} (hlo : -32768 ≤ x) (hhi : x ≤ 32767) : (BitVec.ofInt 32 x).toInt = x := by
  rw [toInt_ofInt_32, wrap32_of_fits (by omega) (by omega)]

theorem nonnegI16_ofInt {x : Int} (hlo : 0 ≤ x) (hhi : x ≤ 32767) : NonnegI16 (BitVec.ofInt 32 x) := by
  rw [NonnegI16, toInt_ofInt_of_fits16 (by omega) hhi]
  exact ⟨hlo, hhi⟩

/-- R318. -/
theorem gainScale_range (d : SubframeVec) (energy : Int) : 0 ≤ gainScale d energy ∧ gainScale d energy ≤ 32768 := by
  unfold gainScale
  dsimp only
  split
  · exact squareRoot_range _
  · omega

/-- R319: the smoothed gain stays in range. -/
theorem formantSubframe_pf (p : Params) (a : AudioBuf) (f : FormantBuf) {q : FormantState} (j : Nat) (hq : NonnegI16 q.pf) :
    NonnegI16 (formantSubframe p a f q j).pf := by
  unfold formantSubframe
  dsimp only
  generalize hgain : gainScale _ _ = gain
  obtain ⟨hlo, hhi⟩ : 0 ≤ gain ∧ gain ≤ 32768 := hgain ▸ gainScale_range _ _
  unfold scaleSubframe
  refine loop_invariant (fun x : I32 × Vector I16 240 => NonnegI16 x.1) 60 _ _ hq fun i x _ ⟨hxlo, hxhi⟩ => ?_
  refine nonnegI16_ofInt ?_ ?_ <;> unfold smoothGain asr <;> omega

/-- R310–R319, R333: of the fields the invariant speaks of, the output stage and the end of the decode write the post-filter gain and
the past frame type. -/
theorem finish_core (p : Params) (j : SynthesisJob) :
    ∃ synth fir iir refl pf, (finish p j).1 = { j.core with
        synthMem := synth, firMem := fir, iirMem := iir, reflectionCoef := refl, pfGain := pf
        pastFrameType := j.core.curFrameType }
      ∧ (NonnegI16 j.core.pfGain → NonnegI16 pf) := by
  unfold finish outputStage
  dsimp only
  split
  · refine ⟨_, _, _, _, _, rfl, fun hpf => ?_⟩
    exact loop_invariant (fun q : FormantState => NonnegI16 q.pf) 4 _ _ hpf fun i q _ hq => formantSubframe_pf _ _ _ i hq
  · exact ⟨_, _, _, _, _, rfl, id⟩

/-! ### The concealment gain memory -/

/-- The gains of the ROM are not negative. -/
abbrev RomGainsOk (p : Params) : Prop := ∀ k : Fin 24, 0 ≤ p.rom.fixedCbGain[k].toInt

/-- R42: the gain memory is in range. -/
def GainMemoryOk (c : Persistent) : Prop := NonnegI16 c.interpGain

/-- R274: the gain read from the ROM. -/
theorem romRead_gain_range {p : Params} (hp : RomGainsOk p) {k : Nat} {g : Int} (h : romRead p.rom.fixedCbGain k = .ok g) :
    0 ≤ g ∧ g ≤ 32767 := by
  by_cases hk : k < 24
  · rw [romRead_of_lt _ hk] at h
    cases h
    refine ⟨?_, (rd_range_16 _ k).2⟩
    rw [rd_of_lt _ hk]
    exact hp ⟨k, hk⟩
  · rw [romRead_of_ge _ (by omega)] at h
    cases h

/-- R275: the decay keeps the range. -/
theorem decayGain_gainMemory {c : Persistent} (hc : GainMemoryOk c) : GainMemoryOk (decayGain c) := by
  obtain ⟨hlo, hhi⟩ := hc
  unfold GainMemoryOk
  rw [decayGain_interpGain]
  refine nonnegI16_ofInt ?_ ?_ <;> unfold asr <;> omega

/-- UNPACK and the remap do not write the gain memory. -/
theorem remapped_gainMemory {size : Nat} {unpack : Persistent → Unpacked} (hf : IsFrame size unpack) {c : Persistent}
    (hc : GainMemoryOk c) : GainMemoryOk (remapped (unpack c)) := by
  refine remapped_keeps (unpack_ends hf ?_ (fun _ h => h) (fun rate hd => ?_) (fun _ => hc) hc) fun _ _ h => h
  · intro c i g _ hc
    simpa [GainMemoryOk] using hc
  · unfold unpackPitch
    dsimp only
    split
    · exact ends_error hc
    · split
      · exact ends_error (by simpa [GainMemoryOk] using hc)
      · exact ends_ok (by simpa [GainMemoryOk] using hc)

/-- R274, R275: a decode keeps the gain memory in range. -/
theorem decodeByType_gainMemory {p : Params} (hp : RomGainsOk p) {bad : Bool} {c : Persistent} (hc : GainMemoryOk c)
    {j : SynthesisJob} (h : decodeByType p bad c = .ok j) : GainMemoryOk j.core := by
  rcases decodeByType_cases h with ⟨_, h⟩ | ⟨_, h⟩
  · obtain ⟨lsp, r, hj, ⟨_, hr⟩ | ⟨_, hr⟩⟩ := decodeActive_cases h
    · obtain ⟨k, g, e, hg, hr⟩ := goodActive_ok hr
      obtain ⟨hlo, hhi⟩ := romRead_gain_range hp hg
      simpa [GainMemoryOk, hj, hr] using nonnegI16_ofInt hlo hhi
    · have hdecay := decayGain_gainMemory hc
      rcases erasedActive_ok hr with hr | ⟨seed, out, hr⟩ <;> simpa [GainMemoryOk, hj, hr] using hdecay
  · obtain ⟨seed, exc, lsp, hj⟩ := decodeNoise_core h
    simpa [GainMemoryOk, hj] using hc

/-- Every part of a step keeps the gains of the ROM, and with them the range of the gain memory. -/
theorem gainMemory_keptByParts : KeptByParts fun s => RomGainsOk s.params ∧ GainMemoryOk s.core where
  pending := fun _ hs => hs
  readData := fun _ hs => hs
  badCommand := fun hs => hs
  store := fun {s} a v hs => by
    rcases storeByte_cases s a v with ⟨_, h⟩ | ⟨_, h⟩ | ⟨_, _, h⟩ | ⟨_, _, _, h⟩ <;> rw [h] <;> exact hs
  exec := fun {i s t} ⟨hp, hs⟩ h => by
    rcases exec_next_cases h with rfl | rfl | ⟨size, unpack, hf, hrun⟩
    · exact ⟨hp, hs⟩
    · exact ⟨hp, nonnegI16_ofInt (le_refl 0) (by decide)⟩
    · rcases runFrame_ok hrun with ⟨_, rfl⟩ | ⟨j, hj, rfl⟩
      · exact ⟨hp, hs⟩
      · obtain ⟨_, _, _, _, _, hfin, _⟩ := finish_core s.params j
        refine ⟨hp, ?_⟩
        dsimp only
        rw [hfin]
        exact decodeByType_gainMemory hp (remapped_gainMemory hf hs) hj

/-- Settles O58: each part of a step keeps the gain memory in range; only a good ACTIVE frame reads a new gain from the ROM. -/
theorem gainMemoryStaysInRange : Obligations.GainMemoryStaysInRange := by
  intro s t hrom hlo hhi h
  exact (step_keeps gainMemory_keptByParts ⟨hrom, hlo, hhi⟩ h).2

/-! ### The invariant between the parts of a decode -/

/-- The invariant of the persistent state but for `past_frame_type`, which a decode writes last: `last` is the type of the frame that
the gains belong to. -/
structure Ranges (last : FrameType) (c : Persistent) : Prop where
  erased : c.erasedFrames ≤ 3
  pfGain : NonnegI16 c.pfGain
  interpIndex : c.interpIndex = 0 ∨ (15 ≤ c.interpIndex.toInt ∧ c.interpIndex.toInt ≤ 146)
  lags : LagOk c.pitchLag[0] ∧ LagOk c.pitchLag[1]
  gains : ∀ i : Fin 4, GainIndexOk c.subframe[i]
  sidGain : NonnegI16 c.sidGain
  sidTarget : last ≠ .active → c.sidGain.toInt ≤ 11008
  curGain : -3 ≤ c.curGain.toInt ∧ c.curGain.toInt ≤ 11008
  curShift : last = .active → c.curGain.toInt ≤ 11

/-- The invariant is the ranges for the past frame type, which is the current one. -/
theorem persistent_inv_iff {c : Persistent} : c.Inv ↔ c.pastFrameType = c.curFrameType ∧ Ranges c.pastFrameType c := by
  constructor
  · intro h
    exact ⟨h.past, { h with }⟩
  · rintro ⟨hpast, h⟩
    exact { h with past := hpast }

/-- The ranges are a matter of seven fields. -/
theorem ranges_congr {last : FrameType} {c d : Persistent} (hc : Ranges last c) (herased : d.erasedFrames = c.erasedFrames)
    (hpf : d.pfGain = c.pfGain) (hindex : d.interpIndex = c.interpIndex) (hlag : d.pitchLag = c.pitchLag)
    (hsub : d.subframe = c.subframe) (hsid : d.sidGain = c.sidGain) (hcur : d.curGain = c.curGain) : Ranges last d where
  erased := herased ▸ hc.erased
  pfGain := hpf ▸ hc.pfGain
  interpIndex := hindex ▸ hc.interpIndex
  lags := hlag ▸ hc.lags
  gains := hsub ▸ hc.gains
  sidGain := hsid ▸ hc.sidGain
  sidTarget := hsid ▸ hc.sidTarget
  curGain := hcur ▸ hc.curGain
  curShift := hcur ▸ hc.curShift

/-- R431: the reset values are in their ranges, whatever the ROM. -/
theorem persistent_reset_inv (dcLsp : Vector I16 10) (postfilter : Bool) : (Persistent.reset dcLsp postfilter).Inv where
  erased := Nat.zero_le 3
  past := rfl
  pfGain := by simp [Persistent.reset]
  interpIndex := .inl rfl
  lags := ⟨.inl rfl, .inl rfl⟩
  gains := fun i => by simp [Persistent.reset, Subframe.reset]
  sidGain := by simp [Persistent.reset]
  sidTarget := fun _ => by simp [Persistent.reset]
  curGain := by simp [Persistent.reset]
  curShift := nofun

theorem hostRegs_reset_inv : HostRegs.reset.Inv where
  consumed := by simp [HostRegs.reset]
  samples := .inl rfl
  short := nofun

/-! ### UNPACK under the invariant -/

theorem gainIndices_setSubframe {c : Persistent} (hc : ∀ i : Fin 4, GainIndexOk c.subframe[i]) (i : Nat)
    {g : Subframe → Subframe} (hg : ∀ sf, GainIndexOk sf → GainIndexOk (g sf)) :
    ∀ k : Fin 4, GainIndexOk (setSubframe c i g).subframe[k] := by
  intro k
  unfold setSubframe
  split
  next hi =>
    simp only [Fin.getElem_fin, Vector.getElem_set]
    split
    · exact hg _ (hc ⟨i, hi⟩)
    · exact hc k
  next => exact hc k

/-- R39: a write to a record touches no other field of the invariant. -/
theorem ranges_setSubframe {last : FrameType} {c : Persistent} (hc : Ranges last c) (i : Nat) {g : Subframe → Subframe}
    (hg : ∀ sf, GainIndexOk sf → GainIndexOk (g sf)) : Ranges last (setSubframe c i g) where
  erased := by simpa using hc.erased
  pfGain := by simpa using hc.pfGain
  interpIndex := by simpa using hc.interpIndex
  lags := by simpa using hc.lags
  gains := gainIndices_setSubframe hc.gains i hg
  sidGain := by simpa using hc.sidGain
  sidTarget := by simpa using hc.sidTarget
  curGain := by simpa using hc.curGain
  curShift := by simpa using hc.curShift

/-- R175: the lag of a legal pitch code is one of R38. -/
theorem ranges_setLag {last : FrameType} {c : Persistent} (hc : Ranges last c) {k : Nat} (hk : k < 2) {code : BitVec 7}
    (hcode : ¬pitchForbidden code = true) :
    Ranges last { c with pitchLag := c.pitchLag.set k (pitchLagOf code) } := by
  obtain ⟨hlo, hhi⟩ := pitchLagOf_range hcode
  have hnew : LagOk (pitchLagOf code) := .inr ⟨hlo, by omega⟩
  obtain ⟨hlag0, hlag1⟩ := hc.lags
  refine { hc with lags := ⟨?_, ?_⟩ } <;> simp only [Vector.getElem_set] <;> split
  · exact hnew
  · exact hlag0
  · exact hnew
  · exact hlag1

/-- What a failed UNPACK leaves after a frame of type `last`. -/
def RangesAfter (last : FrameType) (c : Persistent) : Prop := Ranges last c ∧ c.pastFrameType = last

/-- What a successful UNPACK leaves: an ACTIVE frame has also read the lag that the classifier searches around (R175, R272). -/
def UnpackedRanges (last : FrameType) (c : Persistent) : Prop :=
  RangesAfter last c ∧ (c.curFrameType = .active → 18 ≤ lagOf c 2)

theorem rangesAfter_setSubframe {last : FrameType} {c : Persistent} (hc : RangesAfter last c) (i : Nat)
    {g : Subframe → Subframe} (hg : ∀ sf, GainIndexOk sf → GainIndexOk (g sf)) : RangesAfter last (setSubframe c i g) :=
  ⟨ranges_setSubframe hc.1 i hg, by simpa using hc.2⟩

theorem unpackedRanges_recordClosed (last : FrameType) : RecordClosed (UnpackedRanges last) :=
  fun _ i _ hg hc => ⟨rangesAfter_setSubframe hc.1 i hg, by simpa [lagOf] using hc.2⟩

/-- R175, R176: a forbidden code may leave the first pair's new lag; two legal codes leave both. -/
theorem unpackPitch_ranges {last : FrameType} {c : Persistent} (hc : RangesAfter last c) (hd : ActiveHeader) :
    Ends (UnpackedRanges last) (RangesAfter last) (unpackPitch c hd) := by
  obtain ⟨hranges, hpast⟩ := hc
  unfold unpackPitch
  dsimp only
  split
  · exact ends_error ⟨hranges, hpast⟩
  next h0 =>
    have hfirst := ranges_setSubframe (ranges_setLag hranges (k := 0) (by decide) h0) 1
      (g := fun sf => { sf with adCbLag := hd.adCbLag1 }) fun _ hsf => hsf
    split
    · exact ends_error ⟨hfirst, by simpa using hpast⟩
    next h1 =>
      refine ends_ok ⟨⟨?_, by simpa using hpast⟩, fun _ => ?_⟩
      · refine ranges_setSubframe ?_ 2 fun _ hsf => hsf
        refine ranges_setSubframe ?_ 0 fun _ hsf => hsf
        exact ranges_setSubframe (ranges_setLag hfirst (k := 1) (by decide) h1) 3 fun _ hsf => hsf
      · simpa [lagOf, cell] using (pitchLagOf_range h1).1

/-- R170–R186: what UNPACK leaves of a state with the invariant. -/
theorem unpack_ranges {size : Nat} {unpack : Persistent → Unpacked} (hf : IsFrame size unpack) {c : Persistent}
    (hc : Ranges c.pastFrameType c) : Ends (UnpackedRanges c.pastFrameType) (RangesAfter c.pastFrameType) (unpack c) := by
  refine unpack_ends hf (unpackedRanges_recordClosed _) (fun _ h => h.1) (fun rate hd => ?_) (fun idx => ?_) ?_
  · refine unpackPitch_ranges ?_ hd
    exact ⟨{ hc with }, rfl⟩
  · exact ⟨⟨{ hc with }, rfl⟩, nofun⟩
  · exact ⟨⟨{ hc with }, rfl⟩, nofun⟩

/-! ### ACTIVE frames under the invariant -/

/-- R271–R273: the classifier takes the concealment lag, the energy and the shift from the excitation of its frame. -/
theorem classify_ranges {last : FrameType} {c : Persistent} (hc : Ranges last c) (hlag : 18 ≤ lagOf c 2) (e : ExcBuf) :
    Ranges .active (classify c (scaleVector e) (scaleShift e)) := by
  obtain ⟨heng, heng'⟩ := excEnergy_range (scaleVector e)
  obtain ⟨hshift, hshift'⟩ := scaleShift_range e
  exact { hc with
    interpIndex := by
      rw [classify_interpIndex]
      rcases interpIndexOf_range (scaleVector e) hlag with h0 | ⟨hlo, hhi⟩
      · exact .inl (by rw [h0]; rfl)
      · exact .inr (by rw [toInt_ofInt_of_fits16 (by omega) (by omega)]; exact ⟨hlo, hhi⟩)
    sidGain := nonnegI16_ofInt heng heng'
    sidTarget := fun hne => absurd rfl hne
    curGain := by
      rw [classify_curGain, toInt_ofInt_of_fits16 (by omega) (by omega)]
      omega
    curShift := fun _ => by
      rw [classify_curGain, toInt_ofInt_of_fits16 (by omega) (by omega)]
      exact hshift' }

/-- R274, R375: what a good ACTIVE frame writes besides is no field of the invariant. -/
theorem goodActive_ranges {p : Params} {last : FrameType} {c : Persistent} (hc : Ranges last c) (hlag : 18 ≤ lagOf c 2)
    {r : Persistent × Vector I16 240} (h : goodActive p c = .ok r) : Ranges .active r.1 := by
  obtain ⟨k, g, e, _, hr⟩ := goodActive_ok h
  have hclass : Ranges .active (classify { c with interpGain := BitVec.ofInt 32 g } (scaleVector e) (scaleShift e)) := by
    refine classify_ranges (last := last) ?_ ?_ e
    · exact { hc with }
    · exact hlag
  rw [hr]
  refine ranges_congr hclass ?_ ?_ ?_ ?_ ?_ ?_ ?_ <;> simp

/-- R275–R279: an erased ACTIVE frame leaves every field of the invariant. -/
theorem erasedActive_ranges {last : FrameType} {c : Persistent} (hc : Ranges last c) {r : Persistent × Vector I16 240}
    (h : erasedActive c = .ok r) : Ranges last r.1 := by
  rcases erasedActive_ok h with hr | ⟨seed, out, hr⟩ <;> rw [hr]
  · refine ranges_congr hc ?_ ?_ ?_ ?_ ?_ ?_ ?_ <;> simp
  · refine ranges_congr hc ?_ ?_ ?_ ?_ ?_ ?_ ?_ <;> simp

/-- R373, R375: a good ACTIVE frame. -/
theorem goodDecode_ranges {p : Params} {last : FrameType} {c : Persistent} (hc : Ranges last c) (hlag : 18 ≤ lagOf c 2)
    (hty : c.curFrameType = .active) {j : SynthesisJob} (h : decodeActive p false c = .ok j) :
    Ranges j.core.curFrameType j.core := by
  obtain ⟨lsp, r, hj, ⟨_, hr⟩ | ⟨hbad, _⟩⟩ := decodeActive_cases h
  · obtain ⟨k, g, e, _, hfields⟩ := goodActive_ok hr
    have hcur : j.core.curFrameType = .active := by simp [hj, hfields, hty]
    have hranges : Ranges .active r.1 := by
      refine goodActive_ranges (last := last) ?_ ?_ hr
      · exact { hc with erased := Nat.zero_le 3 }
      · exact hlag
    rw [hcur, hj]
    exact { hranges with }
  · cases hbad

/-- R373, R376: a bad ACTIVE frame after an ACTIVE frame. -/
theorem badDecode_ranges {p : Params} {c : Persistent} (hc : Ranges .active c) (hty : c.curFrameType = .active)
    {j : SynthesisJob} (h : decodeActive p true c = .ok j) : Ranges j.core.curFrameType j.core := by
  obtain ⟨lsp, r, hj, ⟨hgood, _⟩ | ⟨_, hr⟩⟩ := decodeActive_cases h
  · cases hgood
  · have hcur : j.core.curFrameType = .active := by
      rcases erasedActive_ok hr with hr | ⟨seed, out, hr⟩ <;> simp [hj, hr, hty]
    have hranges : Ranges .active r.1 := by
      refine erasedActive_ranges ?_ hr
      exact { hc with erased := min_le_right _ _ }
    rw [hcur, hj]
    exact { hranges with }

/-! ### Comfort noise under the invariant -/

/-- R361, R377: after the update the target is a value of the map, because a frame that is not ACTIVE left one. -/
theorem sidUpdate_target {p : Params} {c : Persistent} (hc : Ranges c.pastFrameType c) (hty : c.curFrameType ≠ .active) :
    0 ≤ (sidUpdate p c).sidGain.toInt ∧ (sidUpdate p c).sidGain.toInt ≤ 11008 := by
  have mapped {g : Int} (hg : 0 ≤ g ∧ g ≤ 63) :
      0 ≤ (BitVec.ofInt 32 (sidGainToLspIndex g)).toInt ∧ (BitVec.ofInt 32 (sidGainToLspIndex g)).toInt ≤ 11008 := by
    obtain ⟨hlo, hhi⟩ := sidGainToLspIndex_range hg.1 hg.2
    rw [toInt_ofInt_of_fits16 (by omega) (by omega)]
    exact ⟨hlo, hhi⟩
  unfold sidUpdate
  split
  · have hamp := (subframeAt c 0).ampIndex.isLt
    exact mapped ⟨by omega, by omega⟩
  · split
    · exact mapped (estimateSidGain_range p _ _)
    next hpast => exact ⟨hc.sidGain.1, hc.sidTarget hpast⟩
  next hactive => exact absurd hactive hty

/-- R362: the smoothed gain lies between the old gain and the target. -/
theorem smoothCurGain_range {p : Params} {c : Persistent} (hsid : 0 ≤ c.sidGain.toInt ∧ c.sidGain.toInt ≤ 11008)
    (hcur : -3 ≤ c.curGain.toInt ∧ c.curGain.toInt ≤ 11008) :
    -3 ≤ (smoothCurGain p c).curGain.toInt ∧ (smoothCurGain p c).curGain.toInt ≤ 11008 := by
  unfold smoothCurGain asr
  split
  · dsimp only
    omega
  · dsimp only
    rw [toInt_ofInt_of_fits16 (by omega) (by omega)]
    omega

/-- R347: drawn gain indices are written to every record. -/
theorem gainIndices_writeDraws (p : Params) {d : NoiseDraws} (hd : ∀ i, i < 4 → d.gains.getD i 0 ≤ 50) {c : Persistent}
    (hc : ∀ i : Fin 4, GainIndexOk c.subframe[i]) : ∀ i : Fin 4, GainIndexOk (writeDraws p d c).subframe[i] := by
  have drawn {i : Nat} (hi : i < 4) : (BitVec.ofNat 8 (d.gains.getD i 0)).toNat ≤ 169 := by
    have := hd i hi
    rw [BitVec.toNat_ofNat]
    omega
  have put {c : Persistent} (hc : ∀ i : Fin 4, GainIndexOk c.subframe[i]) {i : Nat} (hi : i < 4) :=
    gainIndices_setSubframe hc i (g := fun sf => { sf with
      adCbGain := BitVec.ofNat 8 (d.gains.getD i 0), adCbLag := cell p.cngAdaptiveCbLag i }) fun _ _ => drawn hi
  unfold writeDraws
  exact put (put (put (put hc (i := 0) (by decide)) (i := 1) (by decide)) (i := 2) (by decide)) (i := 3) (by decide)

/-- R346: the drawn lags are lags of R38. -/
theorem lagOk_of_draw {n : Nat} (hlo : 123 ≤ n) (hhi : n ≤ 143) : LagOk (BitVec.ofNat 8 n) := by
  refine .inr ?_
  rw [BitVec.toNat_ofNat]
  omega

/-- R377, R378: a comfort-noise frame leaves the ranges for its own type. -/
theorem decodeNoise_ranges {p : Params} {c : Persistent} (hc : Ranges c.pastFrameType c) (hty : c.curFrameType ≠ .active)
    {j : SynthesisJob} (h : decodeNoise p c = .ok j) : Ranges j.core.curFrameType j.core := by
  obtain ⟨seed, exc, lsp, hj⟩ := decodeNoise_core h
  obtain ⟨hsid, hsid'⟩ := sidUpdate_target (p := p) hc hty
  obtain ⟨⟨lo0, hi0⟩, lo1, hi1⟩ := noiseDraws_lags seed
  have hgains : ∀ i : Fin 4, GainIndexOk (smoothCurGain p (sidUpdate p c)).subframe[i] := by simpa using hc.gains
  have hcur : j.core.curFrameType = c.curFrameType := by simp [hj]
  have hdraws : ∀ i, i < 4 → (noiseDraws seed).gains.getD i 0 ≤ 50 := fun _ => noiseDraws_gain_le seed
  rw [hcur, hj]
  generalize noiseDraws seed = d at *
  exact {
    erased := by simpa using hc.erased
    pfGain := by simpa using hc.pfGain
    interpIndex := by simpa using hc.interpIndex
    lags := by simpa using ⟨lagOk_of_draw lo0 hi0, lagOk_of_draw lo1 (by omega)⟩
    gains := gainIndices_writeDraws p hdraws hgains
    sidGain := by simpa [NonnegI16] using ⟨hsid, by omega⟩
    sidTarget := fun _ => by simpa using hsid'
    curGain := by simpa using smoothCurGain_range (p := p) ⟨hsid, hsid'⟩ (by simpa using hc.curGain)
    curShift := fun hactive => absurd hactive hty }

/-! ### The whole decode under the invariant -/

/-- R370: the part of a decode that depends on the frame type leaves the ranges for that type. -/
theorem decodeByType_ranges {p : Params} {u : Unpacked} {last : FrameType} (hu : Ends (UnpackedRanges last) (RangesAfter last) u)
    {j : SynthesisJob} (h : decodeByType p (badFrame u) (remapped u) = .ok j) : Ranges j.core.curFrameType j.core := by
  have hcases := decodeByType_cases h
  rcases remapped_cases u with ⟨c, hc, hflag, hr⟩ | ⟨c, hc, hflag, hpast, hr⟩ | ⟨c, hc, hflag, hpast, hr⟩ <;>
    rw [hflag, hr] at hcases
  · obtain ⟨⟨hranges, rfl⟩, hlag⟩ := hu.1 c hc
    rcases hcases with ⟨hty, h⟩ | ⟨hty, h⟩
    · exact goodDecode_ranges hranges (hlag hty) hty h
    · exact decodeNoise_ranges hranges hty h
  · obtain ⟨hranges, rfl⟩ := hu.2 c hc
    rcases hcases with ⟨hty, h⟩ | ⟨hty, h⟩
    · rw [hpast] at hranges
      exact badDecode_ranges (c := { c with curFrameType := .active }) { hranges with } hty h
    · exact absurd rfl hty
  · obtain ⟨hranges, rfl⟩ := hu.2 c hc
    rcases hcases with ⟨hty, h⟩ | ⟨hty, h⟩
    · cases hty
    · exact decodeNoise_ranges (c := { c with curFrameType := .untransmitted }) { hranges with } hty h

/-- R379–R381: the tail of a decode closes the invariant. -/
theorem finish_inv {p : Params} {j : SynthesisJob} (hj : Ranges j.core.curFrameType j.core) : (finish p j).1.Inv := by
  obtain ⟨synth, fir, iir, refl, pf, hfin, hpf⟩ := finish_core p j
  rw [hfin, persistent_inv_iff]
  exact ⟨rfl, { hj with pfGain := hpf hj.pfGain }⟩

/-! ### The machine -/

/-- R371, R401. -/
theorem raiseShortFrame_inv {s : State} (hs : s.Inv) (hlen : s.regs.inLen.toNat ≤ 24) : (raiseShortFrame s).Inv where
  core := hs.core
  regs := ⟨hlen, .inl rfl, fun _ => ⟨rfl, rfl⟩⟩

/-- R381. -/
theorem reportDecode_inv {size : Nat} (hsize : size ≤ 24) (bad : Bool) (out : Vector I16 240) (r : HostRegs) :
    (reportDecode size bad out r).Inv where
  consumed := by
    rw [reportDecode_consumed, BitVec.toNat_ofNat]
    omega
  samples := .inr rfl
  short := nofun

/-- Every part of a step keeps the invariant. -/
theorem inv_keptByParts : KeptByParts State.Inv where
  pending := fun _ hs => ⟨hs.core, hs.regs⟩
  readData := fun _ hs => ⟨hs.core, hs.regs⟩
  badCommand := fun hs => ⟨hs.core, { hs.regs with short := nofun }⟩
  store := fun {s} a v ⟨hcore, hregs⟩ => by
    rcases storeByte_cases s a v with ⟨_, h⟩ | ⟨_, h⟩ | ⟨_, _, h⟩ | ⟨_, _, _, h⟩ <;> rw [h]
    · exact ⟨{ hcore with }, hregs⟩
    · exact ⟨hcore, { hregs with }⟩
    · exact ⟨hcore, { hregs with }⟩
    · exact ⟨hcore, hregs⟩
  exec := fun {i s t} hs h => by
    rcases exec_next_cases h with rfl | rfl | ⟨size, unpack, hf, hrun⟩
    · exact hs
    · exact ⟨persistent_reset_inv _ _, hostRegs_reset_inv⟩
    · have hsize := hf.size_le
      rcases runFrame_ok hrun with ⟨hlen, rfl⟩ | ⟨j, hj, rfl⟩
      · exact raiseShortFrame_inv hs (by omega)
      · have hranges := (persistent_inv_iff.mp hs.core).2
        exact ⟨finish_inv (decodeByType_ranges (unpack_ranges hf hranges) hj), reportDecode_inv hsize _ _ _⟩

/-- Settles O56: the reset values are in their ranges. -/
theorem resetSatisfiesInvariant : Obligations.ResetSatisfiesInvariant := ⟨persistent_reset_inv _ _, hostRegs_reset_inv⟩

/-- Settles O55: each part of a step keeps the invariant. -/
theorem stepKeepsInvariant : Obligations.StepKeepsInvariant := fun _ _ hs h => step_keeps inv_keptByParts hs h

end Sys2Proof.Proofs
end

section
/-! The host's accesses of the register window (20_memory.md R71–R78): what a read returns, what a single-byte write does to every
byte of the window, and a wide write as its single-byte writes. The last rests on one fact: no byte write reads or writes the list
of later accesses, so a byte write commutes with any replacement of that list. -/

namespace Sys2Proof.Proofs
open Sys2Proof.Machine

/-! ### Bytes of numbers and words -/

/-- R75: byte `k` of a little-endian number. -/
theorem bytesToNat_div_mod (bs : List Byte) {k : Nat} (hk : k < bs.length) :
    bytesToNat bs / 256 ^ k % 256 = (bs[k]).toNat := by
  induction bs generalizing k with
  | nil => exact absurd hk (Nat.not_lt_zero k)
  | cons b bs ih =>
    have hb := b.isLt
    cases k with
    | zero =>
      simp only [bytesToNat, List.getElem_cons_zero]
      omega
    | succ k =>
      have hdiv : (b.toNat + 256 * bytesToNat bs) / 256 = bytesToNat bs := by omega
      rw [bytesToNat, pow_succ', ← Nat.div_div_eq_div_mul, hdiv, List.getElem_cons_succ]
      exact ih (by simpa using hk)

/-- R75: at most four bytes read as one word are the bytes of that word. -/
theorem extractLsb'_ofNat_bytesToNat {bs : List Byte} (hlen : bs.length ≤ 4) {k : Nat} (hk : k < bs.length) :
    (BitVec.ofNat 32 (bytesToNat bs)).extractLsb' (8 * k) 8 = bs[k] := by
  have hlt : bytesToNat bs < 2 ^ 32 := calc
    bytesToNat bs < 256 ^ bs.length := bytesToNat_lt bs
    _ ≤ 256 ^ 4 := Nat.pow_le_pow_right (by decide) hlen
  apply BitVec.eq_of_toNat_eq
  rw [BitVec.extractLsb'_toNat, BitVec.toNat_ofNat, Nat.mod_eq_of_lt hlt, Nat.shiftRight_eq_div_pow, pow_mul]
  exact bytesToNat_div_mod bs hk

theorem widthBytes_le (w : AccessWidth) : widthBytes w ≤ 4 := by cases w <;> decide

/-- R75: byte `k` of a value is the low byte of the value shifted right by `k` bytes. -/
theorem writeByteOf_eq_setWidth (v : BitVec 32) (k : Nat) : writeByteOf v k = (v >>> (8 * k)).setWidth 8 := by
  ext i hi
  simp [writeByteOf]

/-- R75: a one-byte write takes the low byte of its value. -/
theorem writeByteOf_zero (v : BitVec 32) : writeByteOf v 0 = v.setWidth 8 := by
  rw [writeByteOf_eq_setWidth, Nat.mul_zero, BitVec.ushiftRight_zero]

/-! ### Reads -/

/-- R75: the bytes that a read returns. -/
theorem extractLsb'_memRead (s : State) (a : Nat) {n k : Nat} (hn : n ≤ 4) (hk : k < n) :
    (BitVec.ofNat 32 (memRead s a n)).extractLsb' (8 * k) 8 = byteAt s (a + k) := by
  rw [memRead, extractLsb'_ofNat_bytesToNat (by simpa using hn) (by simpa using hk)]
  simp

/-- R71, R75: a read that lies in the window leaves its value and nothing else. -/
theorem hostAccess_read {a : Nat} {w : AccessWidth} (h : a + widthBytes w ≤ 0x300) (s : State) :
    hostAccess s (.read a w) = .next { s with readData := BitVec.ofNat 32 (memRead s a (widthBytes w)) } :=
  if_pos (decide_eq_true h)

/-- Settles O48: the read stores its value in `readData`, which no byte of the window shows. -/
theorem hostReadHasNoSideEffect : Obligations.HostReadHasNoSideEffect := by
  intro s a w rest hpend hin
  refine ⟨_, (step_of_pending hpend).trans (hostAccess_read hin _), rfl, rfl, rfl, rfl, fun k hk => ?_, fun x => rfl⟩
  exact extractLsb'_memRead _ a (widthBytes_le w) hk

/-! ### Single-byte writes -/

/-- R75: an access of one byte writes the low byte of its value. -/
theorem hostAccess_writeOne (s : State) (a : Nat) (v : BitVec 32) :
    hostAccess s (.write a .one v) = writeByte s a (v.setWidth 8) := by
  rw [← writeByteOf_zero]
  change writeBytes s a [writeByteOf v 0] = _
  unfold writeBytes
  cases writeByte s a (writeByteOf v 0) <;> rfl

/-- R75, R77, R78: a step with a one-byte write pending. -/
theorem step_writeOne {s : State} {a : Nat} {v : BitVec 32} {rest : List HostAccess} (h : s.pending = .write a .one v :: rest) :
    step s = writeByte { s with pending := rest } a (v.setWidth 8) := by
  rw [step_of_pending h, hostAccess_writeOne]

/-- R120: a command byte that decodes runs its instruction. -/
theorem runCommand_of_decode {v : Byte} {i : Instr} (h : decode .command [v] = .ok i) (s : State) : runCommand v s = exec i s := by
  replace h : decodeCommand v = .ok i := h
  rw [runCommand, h]

/-- R75: a byte written to `CMD` is a command. -/
theorem writeByte_cmd (s : State) (v : Byte) : writeByte s 0 v = runCommand v s := rfl

/-- R75: a byte written to the window elsewhere is stored. -/
theorem writeByte_of_ne {a : Nat} (h0 : a ≠ 0) (h : a < 0x300) (s : State) (v : Byte) :
    writeByte s a v = .next (storeByte s a v) := by
  rw [writeByte, inWindow, decide_eq_true h, if_pos rfl, if_neg h0]

/-- Settles O4: the byte of the access is decoded and run as a command. -/
theorem stepRunsTheCommandWritten : Obligations.StepRunsTheCommandWritten := by
  intro s v rest i hpend hdec
  rw [step_writeOne hpend, writeByte_cmd, runCommand_of_decode hdec]

/-! ### What a stored byte does to the window -/

theorem cell_setIfInBounds_self {w n : Nat} (v : Vector (BitVec w) n) {i : Nat} (x : BitVec w) (h : i < n) :
    cell (v.setIfInBounds i x) i = x := by simp [cell, h]

theorem cell_setIfInBounds_ne {w n : Nat} (v : Vector (BitVec w) n) {i j : Nat} (x : BitVec w) (h : i ≠ j) :
    cell (v.setIfInBounds i x) j = cell v j := by simp [cell, Vector.getElem_setIfInBounds_ne, h]

/-- R48: `CONFIG`. -/
theorem byteAt_config (s : State) : byteAt s 0x001 = if s.core.postfilter then 1 else 0 := rfl

/-- R71: `IN_BYTES`. -/
theorem byteAt_inBytes (s : State) {a : Nat} (hlo : 0x020 ≤ a) (hhi : a < 0x038) :
    byteAt s a = cell s.regs.inBytes (a - 0x020) := by
  unfold byteAt
  rw [if_neg (by omega), if_neg (by omega), if_neg (by omega), if_neg (by omega), if_neg (by omega), if_pos ⟨hlo, hhi⟩]

/-- R75: storing a byte changes nothing of `S` but `postfilter`. -/
theorem storeByte_core (s : State) (a : Nat) (v : Byte) :
    (storeByte s a v).core = { s.core with postfilter := (storeByte s a v).core.postfilter } := by
  rcases storeByte_cases s a v with ⟨_, h⟩ | ⟨_, h⟩ | ⟨_, _, h⟩ | ⟨_, _, _, h⟩ <;> rw [h]

/-- R75: `CONFIG` takes bit 0 of the byte. -/
theorem byteAt_storeByte_config (s : State) (v : Byte) : byteAt (storeByte s 0x001 v) 0x001 = v &&& 1 := by
  have hbit : ∀ b : Byte, (if b.getLsbD 0 then (1 : Byte) else 0) = b &&& 1 := by decide
  rw [byteAt_config]
  exact hbit v

/-- R75: `IN_LEN` takes the byte. -/
theorem byteAt_storeByte_inLen (s : State) (v : Byte) : byteAt (storeByte s 0x002 v) 0x002 = v := rfl

/-- R75: a byte of `IN_BYTES` takes the byte. -/
theorem byteAt_storeByte_inBytes (s : State) {a : Nat} (v : Byte) (hlo : 0x020 ≤ a) (hhi : a < 0x038) :
    byteAt (storeByte s a v) a = v := by
  rw [byteAt_inBytes _ hlo hhi, storeByte, if_neg (by omega), if_neg (by omega), if_pos ⟨hlo, hhi⟩]
  exact cell_setIfInBounds_self _ v (by omega)

/-- R71, R75: read-only and reserved bytes ignore the write. -/
theorem storeByte_ignored (s : State) {a : Nat} (v : Byte) (h1 : a ≠ 0x001) (h2 : a ≠ 0x002)
    (h3 : ¬(0x020 ≤ a ∧ a < 0x038)) : storeByte s a v = s := by
  rw [storeByte, if_neg h1, if_neg h2, if_neg h3]

/-- R75: no other byte of the window changes. -/
theorem byteAt_storeByte_ne (s : State) {a x : Nat} (v : Byte) (hx : x ≠ a) : byteAt (storeByte s a v) x = byteAt s x := by
  rcases storeByte_cases s a v with ⟨rfl, h⟩ | ⟨rfl, h⟩ | ⟨hlo, hhi, h⟩ | ⟨_, _, _, h⟩ <;> rw [h]
  case inl => simp only [byteAt, if_neg hx]
  case inr.inl => simp only [byteAt, if_neg hx]
  case inr.inr.inl =>
    by_cases hin : 0x020 ≤ x ∧ x < 0x038
    · rw [byteAt_inBytes _ hin.1 hin.2, byteAt_inBytes _ hin.1 hin.2]
      exact cell_setIfInBounds_ne _ v (by omega)
    · simp only [byteAt, if_neg hin]

/-- Settles O49: the step stores the byte, and the laws of a stored byte give each clause. -/
theorem hostWriteChangesOneByte : Obligations.HostWriteChangesOneByte := by
  intro s a v rest hpend h0 hwin
  refine ⟨_, (step_writeOne hpend).trans (writeByte_of_ne h0 hwin _ _), storeByte_pending _ _ _, storeByte_params _ _ _,
    storeByte_readData _ _ _, storeByte_core _ _ _, ?config, ?stored, ?ignored, fun x hx => byteAt_storeByte_ne _ _ hx⟩
  case config =>
    rintro rfl
    exact byteAt_storeByte_config _ _
  case stored =>
    rintro (rfl | ⟨hlo, hhi⟩)
    · exact byteAt_storeByte_inLen _ _
    · exact byteAt_storeByte_inBytes _ _ hlo (by omega)
  case ignored =>
    intro h1 h2 h3
    rw [storeByte_ignored _ _ h1 h2 (by omega)]
    rfl

/-! ### Sequences of steps and bytes -/

/-- An outcome that goes on with `f` from its next state; a stop stays as it is. -/
def andThen (o : Host.Outcome State Fault Refusal) (f : State → Host.Outcome State Fault Refusal) :
    Host.Outcome State Fault Refusal :=
  match o with
  | .next s => f s
  | .fault e => .fault e
  | .refused r => .refused r

theorem andThen_assoc (o : Host.Outcome State Fault Refusal) (f g : State → Host.Outcome State Fault Refusal) :
    andThen (andThen o f) g = andThen o fun s => andThen (f s) g := by cases o <;> rfl

/-- R74: the first byte of a list is written before the others. -/
theorem writeBytes_cons (s : State) (a : Nat) (v : Byte) (vs : List Byte) :
    writeBytes s a (v :: vs) = andThen (writeByte s a v) fun t => writeBytes t (a + 1) vs := by
  rw [writeBytes]
  cases writeByte s a v <;> rfl

/-- A run goes on from the next state of its first step. -/
theorem run_of_next {M : Host.Core} {k : Nat} {s t : M.State} (h : M.step s = .next t) : M.run (k + 1) s = M.run k t := by
  rw [Host.Core.run, h]

theorem run_of_fault {M : Host.Core} {k : Nat} {s : M.State} {e : M.Fault} (h : M.step s = .fault e) :
    M.run (k + 1) s = .fault e := by rw [Host.Core.run, h]

theorem run_of_refused {M : Host.Core} {k : Nat} {s : M.State} {r : M.Refusal} (h : M.step s = .refused r) :
    M.run (k + 1) s = .refused r := by rw [Host.Core.run, h]

/-- `Host.Core.run` of this machine, with its states written as `State`. -/
def runSteps (k : Nat) (s : State) : Host.Outcome State Fault Refusal := Host.Core.run Sys2Proof.core k s

theorem runSteps_zero (s : State) : runSteps 0 s = .next s := rfl

theorem runSteps_succ (k : Nat) (s : State) : runSteps (k + 1) s = andThen (step s) (runSteps k) := by
  cases h : step s with
  | next t => exact run_of_next h
  | fault e => exact run_of_fault h
  | refused r => exact run_of_refused h

/-! ### Later accesses do not matter to a byte write -/

/-- The machine with other accesses to come. -/
def withPending (l : List HostAccess) (s : State) : State := { s with pending := l }

/-- The part of the machine neither reads nor writes the list of later accesses: replacing the list before it or after it is the
same. -/
def IgnoresPending (f : State → Host.Outcome State Fault Refusal) : Prop :=
  ∀ (l : List HostAccess) (s : State), f (withPending l s) = andThen (f s) fun t => .next (withPending l t)

/-- R370: a frame. -/
theorem runFrame_ignoresPending (size : Nat) (unpack : Persistent → Unpacked) :
    IgnoresPending fun s => toOutcome (runFrame size unpack s) := by
  intro l s
  have hshort : isShort size (withPending l s) = isShort size s := rfl
  simp only [runFrame, hshort]
  split
  · rfl
  · change toOutcome (decodeUnpacked s.params (unpack s.core) >>= _)
      = andThen (toOutcome (decodeUnpacked s.params (unpack s.core) >>= _)) _
    cases decodeUnpacked s.params (unpack s.core) <;> rfl

/-- R370: the frame is selected by `IN_BYTES`. -/
theorem execDecode_ignoresPending : IgnoresPending execDecode := by
  intro l s
  have hinput : inputStream (withPending l s) = inputStream s := rfl
  simp only [execDecode, hinput]
  split_ifs <;> exact runFrame_ignoresPending _ _ l s

/-- R384–R389: an instruction. -/
theorem exec_ignoresPending (i : Instr) : IgnoresPending (exec i) := by
  cases i with
  | nop => exact fun _ _ => rfl
  | reset => exact fun _ _ => rfl
  | decode => exact execDecode_ignoresPending
  | frame63 f => exact runFrame_ignoresPending 24 (unpack63 f)
  | frame53 f => exact runFrame_ignoresPending 20 (unpack53 f)
  | sid f => exact runFrame_ignoresPending 4 (unpackSid f)
  | untx b => exact runFrame_ignoresPending 1 unpackUntx

/-- R120, R403: a command byte. -/
theorem runCommand_ignoresPending (v : Byte) : IgnoresPending (runCommand v) := by
  intro l s
  unfold runCommand
  cases decodeCommand v with
  | ok i => exact exec_ignoresPending i l s
  | error e => rfl

theorem storeByte_withPending (l : List HostAccess) (s : State) (a : Nat) (v : Byte) :
    storeByte (withPending l s) a v = withPending l (storeByte s a v) := by
  simp only [storeByte, apply_ite (withPending l)]
  rfl

/-- R77: a byte write, with the command it may run, does the same whatever the host does later. -/
theorem writeByte_withPending (l : List HostAccess) (s : State) (a : Nat) (v : Byte) :
    writeByte (withPending l s) a v = andThen (writeByte s a v) fun t => .next (withPending l t) := by
  by_cases hin : a < 0x300
  · by_cases h0 : a = 0
    · subst h0
      exact runCommand_ignoresPending v l s
    · simp only [writeByte_of_ne h0 hin, storeByte_withPending, andThen]
  · simp only [writeByte, inWindow, decide_eq_false hin, Bool.false_eq_true, if_false, andThen]

/-! ### Wide writes -/

/-- One-byte writes of the given values at `a`, `a + 1`, …. -/
def byteWrites (a : Nat) : List (BitVec 32) → List HostAccess
  | [] => []
  | v :: vs => .write a .one v :: byteWrites (a + 1) vs

/-- R74, R78: bytes written within one step are the same bytes written by one step each. -/
theorem writeBytes_eq_runSteps (s : State) (a : Nat) (vs : List (BitVec 32)) (rest : List HostAccess) :
    writeBytes (withPending rest s) a (vs.map (BitVec.setWidth 8))
      = runSteps vs.length (withPending (byteWrites a vs ++ rest) s) := by
  induction vs generalizing s a with
  | nil => exact (runSteps_zero _).symm
  | cons v vs ih =>
    have hstep : step (withPending (byteWrites a (v :: vs) ++ rest) s)
        = writeByte (withPending (byteWrites (a + 1) vs ++ rest) s) a (v.setWidth 8) := step_writeOne rfl
    calc writeBytes (withPending rest s) a ((v :: vs).map (BitVec.setWidth 8))
      _ = andThen (writeByte s a (v.setWidth 8)) fun t =>
            writeBytes (withPending rest t) (a + 1) (vs.map (BitVec.setWidth 8)) := by
        rw [List.map_cons, writeBytes_cons, writeByte_withPending, andThen_assoc]
        rfl
      _ = andThen (writeByte s a (v.setWidth 8)) fun t =>
            runSteps vs.length (withPending (byteWrites (a + 1) vs ++ rest) t) := by simp only [ih]
      _ = andThen (step (withPending (byteWrites a (v :: vs) ++ rest) s)) (runSteps vs.length) := by
        rw [hstep, writeByte_withPending, andThen_assoc]
        rfl
      _ = runSteps (v :: vs).length (withPending (byteWrites a (v :: vs) ++ rest) s) := (runSteps_succ _ _).symm

/-- R74: a step with a write pending is a run of its single-byte writes, byte `k` being the low byte of the value shifted right by
`k` bytes. -/
theorem step_write_eq_runSteps (s : State) (a : Nat) (w : AccessWidth) (v : BitVec 32) (rest : List HostAccess) :
    step (withPending (.write a w v :: rest) s)
      = runSteps (widthBytes w)
          (withPending (byteWrites a ((List.range (widthBytes w)).map fun k => v >>> (8 * k)) ++ rest) s) := by
  have hbytes : (List.range (widthBytes w)).map (writeByteOf v)
      = ((List.range (widthBytes w)).map fun k => v >>> (8 * k)).map (BitVec.setWidth 8) := by
    simp [writeByteOf_eq_setWidth]
  calc step (withPending (.write a w v :: rest) s)
    _ = writeBytes (withPending rest s) a ((List.range (widthBytes w)).map (writeByteOf v)) :=
      step_of_pending (s := withPending (.write a w v :: rest) s) rfl
    _ = _ := by rw [hbytes, writeBytes_eq_runSteps, List.length_map, List.length_range]

/-- Settles O50: both widths are runs of their single-byte writes, the first of them with the value itself. -/
theorem wideWriteIsItsByteWrites : Obligations.WideWriteIsItsByteWrites := by
  intro s a v rest
  have hzero : v >>> (8 * 0) = v := BitVec.ushiftRight_zero v
  have htwo := step_write_eq_runSteps s a .two v rest
  have hfour := step_write_eq_runSteps s a .four v rest
  simp only [widthBytes, List.range_succ, List.range_zero, List.nil_append, List.cons_append, List.map_cons, List.map_nil,
    byteWrites, hzero] at htwo hfour
  exact ⟨htwo, hfour⟩

end Sys2Proof.Proofs
end

section
/-! The two encoding spaces (30_encoding.md R100–R121). A frame's bytes and its stream are two views of one number, so the round trips
of the decoder and the encoder are shown on the stream: reading a field of a concatenation gives the part that stands there, and
adjacent fields of a stream concatenate to one. No format reads a bit past its own size, so the bytes that follow never matter. -/

namespace Sys2Proof.Proofs
open Sys2Proof.Machine

/-! ### Numbers as bytes -/

theorem two_pow_eight_mul (n : Nat) : 2 ^ (8 * n) = 256 ^ n := pow_mul 2 8 n

theorem bytesToNat_natToBytes (n w : Nat) : bytesToNat (natToBytes n w) = w % 256 ^ n := by
  induction n generalizing w with
  | zero => simp [natToBytes, bytesToNat, Nat.mod_one]
  | succ n ih =>
    rw [natToBytes, bytesToNat, ih, BitVec.toNat_ofNat, pow_succ' 256 n, Nat.mod_mul]

theorem natToBytes_bytesToNat {n : Nat} {bs : List Byte} (h : n ≤ bs.length) : natToBytes n (bytesToNat bs) = bs.take n := by
  induction n generalizing bs with
  | zero => rfl
  | succ n ih =>
    cases bs with
    | nil => simp at h
    | cons b bs =>
      have hb := b.isLt
      have hlow : BitVec.ofNat 8 (b.toNat + 256 * bytesToNat bs) = b := by
        apply BitVec.eq_of_toNat_eq
        rw [BitVec.toNat_ofNat]
        omega
      have hhigh : (b.toNat + 256 * bytesToNat bs) / 256 = bytesToNat bs := by omega
      rw [bytesToNat, natToBytes, hlow, hhigh, ih (by simpa using h), List.take_succ_cons]

/-- The low `n` bytes of a number depend on its low `n` bytes only. -/
theorem natToBytes_mod (n w : Nat) : natToBytes n (w % 256 ^ n) = natToBytes n w := by
  have hlen := Laws.natToBytes_length n w
  rw [← bytesToNat_natToBytes, natToBytes_bytesToNat hlen.ge, List.take_of_length_le hlen.le]

theorem natToBytes_mod_two_pow {n m : Nat} (h : 8 * n ≤ m) (w : Nat) : natToBytes n (w % 2 ^ m) = natToBytes n w := by
  have hdvd : 256 ^ n ∣ 2 ^ m := two_pow_eight_mul n ▸ pow_dvd_pow 2 h
  rw [← natToBytes_mod, Nat.mod_mod_of_dvd w hdvd, natToBytes_mod]

/-! ### Bytes as a stream -/

/-- R101: the bytes of a stream that begins with `n` bytes are the bytes of those bits. -/
theorem natToBytes_field (n : Nat) (w : BitVec 192) : natToBytes n (field w 0 (8 * n)).toNat = natToBytes n w.toNat := by
  rw [field, BitVec.extractLsb'_toNat, Nat.shiftRight_zero, natToBytes_mod_two_pow le_rfl]

/-- R73: bits written out as `n` bytes are the first bits of the stream of those bytes. -/
theorem field_streamOf_natToBytes {n : Nat} (hn : n ≤ 24) (x : BitVec (8 * n)) :
    field (streamOf (natToBytes n x.toNat)) 0 (8 * n) = x := by
  have hx : x.toNat < 256 ^ n := two_pow_eight_mul n ▸ x.isLt
  rw [streamOf, bytesToNat_natToBytes, Nat.mod_eq_of_lt hx, field, BitVec.ofNat_toNat,
    BitVec.extractLsb'_setWidth_of_le (by omega), BitVec.extractLsb'_eq_self]

/-- R73, R101: the stream holds every byte that a frame can occupy. -/
theorem natToBytes_streamOf {n : Nat} (hn : n ≤ 24) (bs : List Byte) :
    natToBytes n (streamOf bs).toNat = natToBytes n (bytesToNat bs) := by
  rw [streamOf, BitVec.toNat_ofNat, natToBytes_mod_two_pow (by omega)]

/-- R102: the first byte holds the info bits. -/
theorem infoBits_streamOf_cons (b : Byte) (bs : List Byte) : infoBits (streamOf (b :: bs)) = b.extractLsb' 0 2 := by
  apply BitVec.eq_of_toNat_eq
  simp only [infoBits, field, streamOf, bytesToNat, BitVec.extractLsb'_toNat, BitVec.toNat_ofNat, Nat.shiftRight_zero]
  omega

/-! ### Fields and concatenations -/

/-- R100: a field inside a known part of the stream is read from that part. -/
theorem field_eq_extractLsb' {w : BitVec 192} {q n : Nat} {x : BitVec n} (hw : field w q n = x) {p k : Nat} (hlo : q ≤ p)
    (hhi : p + k ≤ q + n) : field w p k = x.extractLsb' (p - q) k := by
  rw [← hw]
  ext i hi
  simp [field, show p - q + i < n by omega, show q + (p - q + i) = p + i by omega]

/-- R104, R105: the header's fields concatenate to its part of the stream. -/
theorem activeHeader_bits_ofStream (w : BitVec 192) : (ActiveHeader.ofStream w).bits = field w 2 94 := by
  simp only [ActiveHeader.ofStream, ActiveHeader.bits, field, BitVec.extractLsb'_append_extractLsb'_eq_extractLsb']

/-- R102: the info bits are read back from a stream that begins with them. -/
theorem infoBits_of_append {w : BitVec 192} {m : Nat} {rest : BitVec m} {info : BitVec 2}
    (hw : field w 0 (m + 2) = rest ++ info) : infoBits w = info := by
  rw [infoBits, field_eq_extractLsb' hw le_rfl (by omega)]
  exact BitVec.extractLsb'_append_eq_right

/-- R104, R105: a header is read back from a stream that begins with the info bits and its bits. -/
theorem activeHeader_ofStream_of_append {w : BitVec 192} {m : Nat} {rest : BitVec m} {h : ActiveHeader} {info : BitVec 2}
    (hw : field w 0 (m + 94 + 2) = rest ++ h.bits ++ info) : ActiveHeader.ofStream w = h := by
  have hbits : field w 2 94 = h.bits := by
    rw [field_eq_extractLsb' hw (by omega) (by omega), BitVec.extractLsb'_append_eq_of_le (by omega)]
    exact BitVec.extractLsb'_append_eq_right
  rw [ActiveHeader.ofStream]
  simp (disch := decide) only [field_eq_extractLsb' hbits, ActiveHeader.bits, BitVec.extractLsb'_append_eq_of_le,
    BitVec.extractLsb'_append_eq_of_add_le, BitVec.extractLsb'_eq_self, Nat.reduceSub]

/-- R106: the fields of F63 concatenate to the stream. -/
theorem frame63_bits_ofStream {w : BitVec 192} (h : infoBits w = 0) : (Frame63.ofStream w).bits = field w 0 192 := by
  have hinfo : 0#2 = w.extractLsb' 0 2 := h.symm
  simp only [Frame63.ofStream, Frame63.bits, activeHeader_bits_ofStream, field, hinfo,
    BitVec.extractLsb'_append_extractLsb'_eq_extractLsb']

/-- R107: the fields of F53 concatenate to the first 20 bytes of the stream. -/
theorem frame53_bits_ofStream {w : BitVec 192} (h : infoBits w = 1) : (Frame53.ofStream w).bits = field w 0 160 := by
  have hinfo : 1#2 = w.extractLsb' 0 2 := h.symm
  simp only [Frame53.ofStream, Frame53.bits, activeHeader_bits_ofStream, field, hinfo,
    BitVec.extractLsb'_append_extractLsb'_eq_extractLsb']

/-- R104: the fields of FSID concatenate to the first 4 bytes of the stream. -/
theorem sid_bits_ofStream {w : BitVec 192} (h : infoBits w = 2) : (SidFrame.ofStream w).bits = field w 0 32 := by
  have hinfo : 2#2 = w.extractLsb' 0 2 := h.symm
  simp only [SidFrame.ofStream, SidFrame.bits, field, hinfo, BitVec.extractLsb'_append_extractLsb'_eq_extractLsb']

/-- R103: the fields of FUNT concatenate to the first byte of the stream. -/
theorem untx_bits_ofStream {w : BitVec 192} (h : infoBits w = 3) : (field w 2 6 ++ 3#2 : BitVec 8) = field w 0 8 := by
  have hinfo : 3#2 = w.extractLsb' 0 2 := h.symm
  simp only [field, hinfo, BitVec.extractLsb'_append_extractLsb'_eq_extractLsb']

/-! ### The frame a stream begins with -/

/-- R102: the type of the frame that a stream begins with is the value of its info bits. -/
theorem frameOfStream_cases (w : BitVec 192) :
    (infoBits w = 0 ∧ frameOfStream w = .frame63 (Frame63.ofStream w))
      ∨ (infoBits w = 1 ∧ frameOfStream w = .frame53 (Frame53.ofStream w))
      ∨ (infoBits w = 2 ∧ frameOfStream w = .sid (SidFrame.ofStream w))
      ∨ (infoBits w = 3 ∧ frameOfStream w = .untx (field w 2 6)) := by
  have hinfo : ∀ b : BitVec 2, b = 0 ∨ b = 1 ∨ b = 2 ∨ b = 3 := by decide
  rcases hinfo (infoBits w) with h | h | h | h <;> simp [frameOfStream, h]

/-- R106: a stream that begins with the bits of F63. -/
theorem frameOfStream_of_frame63_bits {w : BitVec 192} {f : Frame63} (hw : field w 0 192 = f.bits) : frameOfStream w = .frame63 f := by
  have hinfo : infoBits w = 0 := infoBits_of_append (m := 190) hw
  have hheader : ActiveHeader.ofStream w = f.header := activeHeader_ofStream_of_append (m := 96) hw
  rw [frameOfStream, if_pos hinfo, Frame63.ofStream, hheader]
  simp (disch := decide) only [field_eq_extractLsb' hw, Frame63.bits, BitVec.extractLsb'_append_eq_of_le,
    BitVec.extractLsb'_append_eq_of_add_le, BitVec.extractLsb'_eq_self, Nat.reduceSub]

/-- R107: a stream that begins with the bits of F53. -/
theorem frameOfStream_of_frame53_bits {w : BitVec 192} {f : Frame53} (hw : field w 0 160 = f.bits) : frameOfStream w = .frame53 f := by
  have hinfo : infoBits w = 1 := infoBits_of_append (m := 158) hw
  have hheader : ActiveHeader.ofStream w = f.header := activeHeader_ofStream_of_append (m := 64) hw
  rw [frameOfStream, hinfo, if_neg (by decide), if_pos rfl, Frame53.ofStream, hheader]
  simp (disch := decide) only [field_eq_extractLsb' hw, Frame53.bits, BitVec.extractLsb'_append_eq_of_le,
    BitVec.extractLsb'_append_eq_of_add_le, BitVec.extractLsb'_eq_self, Nat.reduceSub]

/-- R104: a stream that begins with the bits of FSID. -/
theorem frameOfStream_of_sid_bits {w : BitVec 192} {f : SidFrame} (hw : field w 0 32 = f.bits) : frameOfStream w = .sid f := by
  have hinfo : infoBits w = 2 := infoBits_of_append (m := 30) hw
  rw [frameOfStream, hinfo, if_neg (by decide), if_neg (by decide), if_pos rfl, SidFrame.ofStream]
  simp (disch := decide) only [field_eq_extractLsb' hw, SidFrame.bits, BitVec.extractLsb'_append_eq_of_le,
    BitVec.extractLsb'_append_eq_of_add_le, BitVec.extractLsb'_eq_self, Nat.reduceSub]

/-- R103: a stream that begins with the bits of FUNT. -/
theorem frameOfStream_of_untx_bits {w : BitVec 192} {b : BitVec 6} (hw : field w 0 8 = b ++ 3#2) : frameOfStream w = .untx b := by
  have hinfo : infoBits w = 3 := infoBits_of_append (m := 6) hw
  rw [frameOfStream, hinfo, if_neg (by decide), if_neg (by decide), if_neg (by decide),
    field_eq_extractLsb' hw (by decide) (by decide), BitVec.extractLsb'_append_eq_left]

/-! ### The round trips of a frame's stream -/

/-- R102: a frame has the size its info bits say. -/
theorem frameOfStream_size (w : BitVec 192) : (frameOfStream w).size = frameSize (infoBits w) := by
  rcases frameOfStream_cases w with ⟨h, hi⟩ | ⟨h, hi⟩ | ⟨h, hi⟩ | ⟨h, hi⟩ <;> rw [h, hi] <;> rfl

theorem frameOfStream_source (w : BitVec 192) : (frameOfStream w).source = .frame := by
  rcases frameOfStream_cases w with ⟨_, hi⟩ | ⟨_, hi⟩ | ⟨_, hi⟩ | ⟨_, hi⟩ <;> rw [hi] <;> rfl

/-- R101: every instruction is 1 to 24 bytes long. -/
theorem size_range (i : Instr) : 1 ≤ i.size ∧ i.size ≤ 24 := by cases i <;> simp [Instr.size]

/-- R101–R107: the stream of an encoded frame begins with that frame. -/
theorem frameOfStream_streamOf_encode {i : Instr} (hi : i.source = .frame) : frameOfStream (streamOf (encode i)) = i := by
  cases i with
  | nop => cases hi
  | reset => cases hi
  | decode => cases hi
  | frame63 f => exact frameOfStream_of_frame63_bits (field_streamOf_natToBytes (n := 24) (by decide) f.bits)
  | frame53 f => exact frameOfStream_of_frame53_bits (field_streamOf_natToBytes (n := 20) (by decide) f.bits)
  | sid f => exact frameOfStream_of_sid_bits (field_streamOf_natToBytes (n := 4) (by decide) f.bits)
  | untx b => exact frameOfStream_of_untx_bits (field_streamOf_natToBytes (n := 1) (by decide) (b ++ 3#2))

/-- R101–R107: the frame that a stream begins with is encoded by the first bytes of the stream. -/
theorem encode_frameOfStream (w : BitVec 192) : encode (frameOfStream w) = natToBytes (frameOfStream w).size w.toNat := by
  rcases frameOfStream_cases w with ⟨h, hi⟩ | ⟨h, hi⟩ | ⟨h, hi⟩ | ⟨h, hi⟩ <;> rw [hi]
  · rw [encode, frame63_bits_ofStream h]
    exact natToBytes_field 24 w
  · rw [encode, frame53_bits_ofStream h]
    exact natToBytes_field 20 w
  · rw [encode, sid_bits_ofStream h]
    exact natToBytes_field 4 w
  · rw [encode, untx_bits_ofStream h]
    exact natToBytes_field 1 w

/-- R101–R107: the frame that bytes begin with is encoded by the first of those bytes. -/
theorem take_size_eq_encode {bs : List Byte} (h : (frameOfStream (streamOf bs)).size ≤ bs.length) :
    bs.take (frameOfStream (streamOf bs)).size = encode (frameOfStream (streamOf bs)) := by
  have hsize := (size_range (frameOfStream (streamOf bs))).2
  rw [encode_frameOfStream, natToBytes_streamOf hsize, natToBytes_bytesToNat h]

/-! ### The decoder -/

/-- R101, R102: bytes decode to the frame that their stream begins with, when they are long enough for it. -/
theorem decode_frame_ok_iff {bs : List Byte} {i : Instr} :
    decode .frame bs = .ok i ↔ i = frameOfStream (streamOf bs) ∧ i.size ≤ bs.length := by
  cases bs with
  | nil =>
    have hpos := (size_range i).1
    simp [decode, decodeFrame, show i.size ≠ 0 by omega]
  | cons b bs =>
    have hsize : frameSize (infoBits (streamOf [b])) = (frameOfStream (streamOf (b :: bs))).size := by
      rw [frameOfStream_size, infoBits_streamOf_cons, infoBits_streamOf_cons]
    simp only [decode, decodeFrame, hsize]
    split
    next hshort =>
      refine ⟨(nomatch ·), ?_⟩
      rintro ⟨rfl, hlen⟩
      omega
    next hlen =>
      rw [take_size_eq_encode (by omega), frameOfStream_streamOf_encode (frameOfStream_source _)]
      constructor
      · rintro ⟨⟩
        exact ⟨rfl, by omega⟩
      · rintro ⟨rfl, _⟩
        rfl

/-- R120, R403: a command byte is one of three commands or reserved. -/
theorem decodeCommand_cases (v : Byte) :
    (decodeCommand v = .ok .nop ∧ v = 0) ∨ (decodeCommand v = .ok .reset ∧ v = 1) ∨ (decodeCommand v = .ok .decode ∧ v = 2)
      ∨ (decodeCommand v = .error .badCommand ∧ 3 ≤ v.toNat) := by
  revert v
  decide

/-- R120: only the three one-byte encodings of the commands decode in their space. -/
theorem decode_command_ok_iff {bs : List Byte} {i : Instr} :
    decode .command bs = .ok i ↔ i.source = .command ∧ encode i = bs := by
  constructor
  · intro h
    match bs with
    | [] => cases h
    | _ :: _ :: _ => cases h
    | [v] =>
      replace h : decodeCommand v = .ok i := h
      rcases decodeCommand_cases v with ⟨hv, rfl⟩ | ⟨hv, rfl⟩ | ⟨hv, rfl⟩ | ⟨hv, _⟩ <;> rw [hv] at h <;> cases h <;>
        exact ⟨rfl, rfl⟩
  · rintro ⟨hsource, rfl⟩
    cases i <;> cases hsource <;> rfl

/-! ### The round trips -/

/-- R101, R120: an encoding has the instruction's size. -/
theorem encode_length (i : Instr) : (encode i).length = i.size := by
  cases i with
  | nop => exact Laws.EncodedLength.nop
  | reset => exact Laws.EncodedLength.reset
  | decode => exact Laws.EncodedLength.decode
  | frame63 f => exact Laws.EncodedLength.frame63 f
  | frame53 f => exact Laws.EncodedLength.frame53 f
  | sid f => exact Laws.EncodedLength.sid f
  | untx b => exact Laws.EncodedLength.untx b

/-- Settles O51: a command is its encoding, and an encoded frame is read back from its stream. -/
theorem decodeOfEncodeIsIdentity : Obligations.DecodeOfEncodeIsIdentity := by
  intro i
  cases hsource : i.source with
  | command => exact decode_command_ok_iff.mpr ⟨hsource, rfl⟩
  | frame => exact decode_frame_ok_iff.mpr ⟨(frameOfStream_streamOf_encode hsource).symm, (encode_length i).ge⟩

/-- Settles O52: a command is its encoding, and the stream determines the frame and the bytes it was read from. -/
theorem encodeOfDecodeIsTheBytes : Obligations.EncodeOfDecodeIsTheBytes := by
  intro src bs i h
  cases src with
  | command =>
    obtain ⟨hsource, rfl⟩ := decode_command_ok_iff.mp h
    exact ⟨hsource, List.take_of_length_le (encode_length i).le⟩
  | frame =>
    obtain ⟨rfl, hlen⟩ := decode_frame_ok_iff.mp h
    exact ⟨frameOfStream_source _, take_size_eq_encode hlen⟩

/-- Settles O53: the cases of a command byte, and the frame that the stream begins with. -/
theorem everyByteIsDecoded : Obligations.EveryByteIsDecoded := by
  refine ⟨decodeCommand_cases, fun b bs hlen => ?_⟩
  rw [← infoBits_streamOf_cons b bs] at hlen ⊢
  have hsize := frameOfStream_size (streamOf (b :: bs))
  refine ⟨_, decode_frame_ok_iff.mpr ⟨rfl, hsize.trans_le hlen⟩, hsize, ?_⟩
  rcases frameOfStream_cases (streamOf (b :: bs)) with ⟨h, hi⟩ | ⟨h, hi⟩ | ⟨h, hi⟩ | ⟨h, hi⟩ <;> simp [h, hi]

/-! ### Table words -/

theorem toOption_eq_some {ε α : Type} {x : Except ε α} {a : α} : x.toOption = some a ↔ x = .ok a := by
  cases x <;> simp [Except.toOption]

/-- The low byte of a table word, which is its command byte where it has one (log entry 7). -/
def tableByte (nbits w : Nat) : Byte := BitVec.ofNat 8 (w % 2 ^ nbits)

/-- Log entry 7: the words that are read as commands. -/
def IsCommandWord (nbits w : Nat) : Prop := nbits ≤ 8 ∧ (tableByte nbits w).toNat < 3

theorem tableBytes_take_one (nbits w : Nat) : (tableBytes nbits w).take 1 = [tableByte nbits w] := rfl

/-- R120: the values below 3 are commands. -/
theorem decodeCommand_isOk_iff (v : Byte) : (decodeCommand v).isOk ↔ v.toNat < 3 := by
  rcases decodeCommand_cases v with ⟨hv, rfl⟩ | ⟨hv, rfl⟩ | ⟨hv, rfl⟩ | ⟨hv, hge⟩ <;> rw [hv]
  · decide
  · decide
  · decide
  · exact iff_of_false Bool.false_ne_true (by omega)

/-- Log entry 7: a command word decodes as its command byte, any other word as a frame. -/
theorem decodeTableWord_eq_some {nbits w : Nat} {i : Instr} (h : decodeTableWord nbits w = some i) :
    (IsCommandWord nbits w ∧ decode .command [tableByte nbits w] = .ok i)
      ∨ (¬IsCommandWord nbits w ∧ decode .frame (tableBytes nbits w) = .ok i) := by
  rw [decodeTableWord, tableBytes_take_one] at h
  split at h
  next j hj =>
    cases h
    split at hj
    next hbits =>
      replace hj : decodeCommand (tableByte nbits w) = .ok i := hj
      exact .inl ⟨⟨hbits, (decodeCommand_isOk_iff _).mp (by rw [hj]; rfl)⟩, hj⟩
    next => cases hj
  next e he =>
    refine .inr ⟨fun ⟨hbits, hlt⟩ => ?_, toOption_eq_some.mp h⟩
    rw [if_pos hbits] at he
    have hok := (decodeCommand_isOk_iff _).mpr hlt
    replace he : decodeCommand (tableByte nbits w) = .error e := he
    rw [he] at hok
    cases hok

/-- Log entry 1: a command word is placed as the host's next write of `CMD`. -/
theorem placeTableWord_command {nbits w : Nat} (h : IsCommandWord nbits w) (s : State) :
    placeTableWord s nbits w = aboutToCommand s (tableByte nbits w) := if_pos h

/-- The registers with the frame of a table word placed in them (R121). -/
def frameWordRegs (nbits w : Nat) (r : HostRegs) : HostRegs :=
  placeFrame (Vector.ofFn fun i => (tableBytes nbits w).getD i.val 0) (frameSize (infoBits (streamOf (tableBytes nbits w)))) r

/-- Log entry 1: a frame word is placed in the registers, with DECODE as the host's next write of `CMD`. -/
theorem placeTableWord_frame {nbits w : Nat} (h : ¬IsCommandWord nbits w) (s : State) :
    placeTableWord s nbits w = aboutToCommand { s with regs := frameWordRegs nbits w s.regs } 2 := if_neg h

/-- R121: `IN_BYTES` holds the bytes of the word. -/
theorem frameWordRegs_inBytes (nbits w : Nat) (r : HostRegs) : (frameWordRegs nbits w r).inBytes.toList = tableBytes nbits w := by
  have hlen : (tableBytes nbits w).length = 24 := Laws.natToBytes_length 24 _
  apply List.ext_getElem
  · simp [hlen]
  · intro k hk _
    simp [frameWordRegs, placeFrame, List.getD_eq_getElem?_getD, hlen]

/-- R121: `IN_LEN` is the size of the frame. -/
theorem frameWordRegs_inLen (nbits w : Nat) (r : HostRegs) :
    (frameWordRegs nbits w r).inLen.toNat = (frameOfStream (streamOf (tableBytes nbits w))).size := by
  have hsize := (size_range (frameOfStream (streamOf (tableBytes nbits w)))).2
  rw [frameOfStream_size] at hsize ⊢
  exact Nat.mod_eq_of_lt (by omega)

/-! ### Placed instructions -/

/-- R120, log entry 1: the step after a byte is about to be written to `CMD` runs that command. -/
theorem step_aboutToCommand (s : State) (v : Byte) : step (aboutToCommand s v) = runCommand v s := by
  rw [step_writeOne (s := aboutToCommand s v) rfl, writeByte_cmd, BitVec.setWidth_setWidth_of_le _ (by decide), BitVec.setWidth_eq]
  rfl

/-- R370: DECODE runs the frame that the stream in `IN_BYTES` begins with. -/
theorem exec_decode_eq (s : State) : exec .decode s = exec (frameOfStream (inputStream s)) s := by
  change execDecode s = _
  unfold execDecode frameOfStream
  dsimp only
  split_ifs <;> rfl

/-- Settles O6: a command word is written to `CMD` as it is; for any other word DECODE runs the frame that its bytes begin with, and
those bytes are its encoding. -/
theorem placedWordIsWhatStepRuns : Obligations.PlacedWordIsWhatStepRuns := by
  intro s nbits w i hi
  rw [State.withFetchWord]
  rcases decodeTableWord_eq_some hi with ⟨hword, hdec⟩ | ⟨hword, hdec⟩
  case inl =>
    have hsource := (decode_command_ok_iff.mp hdec).1
    refine ⟨s.regs, ?_, fun _ => rfl, fun hframe => absurd (hsource.symm.trans hframe) (by decide)⟩
    rw [placeTableWord_command hword, step_aboutToCommand, runCommand_of_decode hdec]
  case inr =>
    obtain ⟨hframe, hlen⟩ := decode_frame_ok_iff.mp hdec
    rw [hframe] at hlen ⊢
    have hsource := frameOfStream_source (streamOf (tableBytes nbits w))
    refine ⟨frameWordRegs nbits w s.regs, ?_, fun hcmd => absurd (hsource.symm.trans hcmd) (by decide),
      fun _ => ⟨frameWordRegs_inLen _ _ _, ?_⟩⟩
    · rw [placeTableWord_frame hword, step_aboutToCommand, runCommand_of_decode (i := .decode) rfl, exec_decode_eq, inputStream,
        frameWordRegs_inBytes]
    · rw [frameWordRegs_inBytes, take_size_eq_encode hlen]

/-! ### Operands -/

/-- R112, R180: UNPACK of F63 skips stream bit 96. -/
theorem unpack63_reserved (f : Frame63) (b : BitVec 1) : unpack63 { f with reserved := b } = unpack63 f := rfl

/-- R103, R172: UNTX reads no bit above its info bits. -/
theorem execUntx_ignored (b c : BitVec 6) : execUntx b = execUntx c := rfl

/-- Settles O23: UNPACK reads neither operand. -/
theorem reservedBitsNeverMatter : Obligations.ReservedBitsNeverMatter := by
  refine ⟨fun f b s => ?_, fun b c s => congrFun (execUntx_ignored b c) s⟩
  change execFrame63 { f with reserved := b } s = execFrame63 f s
  rw [execFrame63, unpack63_reserved, execFrame63]

/-- Settles O26: a number below `2 ^ 12` in base 24, below its top bit where the word is split. -/
theorem gainWordDecodes : Obligations.GainWordDecodes := by
  intro rate lag t g
  have ht := t.isLt
  have hamp (n : Nat) : n % 24 ≤ 23 := Nat.le_of_lt_succ (Nat.mod_lt n (by decide))
  by_cases hsplit : rate = .r6300 ∧ lag < 58
  · have hg : g = _ := if_pos hsplit
    rw [hg]
    have hdirac : (BitVec.ofNat 1 (t.toNat / 2048)).toNat = t.toNat / 2048 := Nat.mod_eq_of_lt (by omega)
    exact ⟨fun _ => ⟨rfl, hdirac, Nat.div_add_mod' _ _⟩, fun h => absurd hsplit h, hamp _⟩
  · have hg : g = _ := if_neg hsplit
    rw [hg]
    exact ⟨fun h => absurd h hsplit, fun _ => ⟨rfl, rfl, Nat.div_add_mod' _ _⟩, hamp _⟩

end Sys2Proof.Proofs
end

section
/-! The square root and the vector normalization (40_primitives.md R146, R148). The root is bracketed between what is decided and
twice the next candidate bit above it; the normalized shift is bounded by the top bit of the largest magnitude. -/

namespace Sys2Proof.Proofs
open Sys2Proof.Machine

/-! ### The square root -/

/-- With the bits of the root above `e` decided as `r`, `e` the next candidate bit: `r` fits, and `r + 2 * e` does not. -/
structure RootBracket (v e r : Int) : Prop where
  nonneg : 0 ≤ r
  dvd : 2 * e ∣ r
  le_top : r + 2 * e ≤ 32768
  fits : 2 * (r * r) ≤ v
  tight : v < 2 * ((r + 2 * e) * (r + 2 * e))

/-- R146: an iteration decides the candidate bit `2 * e` and goes on with `e`. -/
theorem squareRootStep_bracket {v e r : Int} (he : 0 ≤ e) (h : RootBracket v (2 * e) r) :
    (squareRootStep v (r, 2 * e)).2 = e ∧ RootBracket v e (squareRootStep v (r, 2 * e)).1 := by
  obtain ⟨hnonneg, hdvd, htop, hfits, htight⟩ := h
  have hbit : 2 * e ∣ r := dvd_of_mul_left_dvd hdvd
  unfold squareRootStep asr
  refine ⟨by dsimp only; omega, ?_⟩
  dsimp only
  split
  next hset => exact ⟨by omega, dvd_add_self_right.mpr hbit, by omega, by linarith, by linarith⟩
  next hclear => exact ⟨hnonneg, hbit, by omega, hfits, by linarith⟩

/-- R146: the 14 iterations leave the candidate bit at 1, so bit 0 is the only bit not decided. -/
theorem squareRoot_bracket {v : Int} (h0 : 0 ≤ v) (h1 : v ≤ 2147483647) : RootBracket v 1 (squareRoot v) := by
  have hloop := loop_induction (fun k p => p.2 = 2 ^ (14 - k) ∧ RootBracket v p.2 p.1) 14 (0, 0x4000)
    (fun p _ => squareRootStep v p) ⟨by norm_num, by omega, dvd_zero _, by omega, by omega, by omega⟩ fun k p hk hp => by
      obtain ⟨r, e⟩ := p
      obtain ⟨rfl, hp⟩ := hp
      have hhalf : (2 : Int) ^ (14 - k) = 2 * 2 ^ (14 - (k + 1)) := by
        rw [← pow_succ']
        congr 1
        omega
      dsimp only at hp ⊢
      rw [hhalf] at hp ⊢
      obtain ⟨hbit, hnext⟩ := squareRootStep_bracket (by positivity) hp
      exact ⟨hbit, by rwa [hbit]⟩
  obtain ⟨hbit, hroot⟩ := hloop
  rwa [hbit] at hroot

/-- Settles O43: an even number above the root is at least 2 above it, and that no longer fits. -/
theorem squareRootIsLargestEven : Obligations.SquareRootIsLargestEven := by
  intro v h0 h1
  obtain ⟨hnonneg, hdvd, htop, hfits, htight⟩ := squareRoot_bracket h0 h1
  refine ⟨by omega, hnonneg, by omega, hfits, fun r _ _ heven hr => ?_⟩
  by_contra hlt
  have hnext : squareRoot v + 2 * 1 ≤ r := by omega
  have hsq := mul_self_le_mul_self (by omega) hnext
  omega

/-! ### Normalization -/

/-- R148: no magnitude is above the maximum. -/
theorem abs_rd_le_maxAbs {n : Nat} (src : Vector I16 n) {i : Nat} (hi : i < n) : |rd src i| ≤ maxAbs src :=
  loop_induction (fun k m => ∀ i, i < k → |rd src i| ≤ m) n 0 (fun m i => max m |rd src i|) (fun _ h => absurd h (by omega))
    (fun k m _ hm i hik => by
      rcases Nat.lt_succ_iff_lt_or_eq.mp hik with hlt | rfl
      · exact le_max_of_le_left (hm i hlt)
      · exact le_max_right _ _) i hi

/-- R148: `bits` counts from the top bit of the maximum up to bit 14; the clamp is the truncated difference. -/
theorem scaleBits_toNat {n : Nat} (src : Vector I16 n) : (scaleBits src).toNat = 14 - Nat.log2 (maxAbs src).toNat := by
  unfold scaleBits normalizeBits log2Floor
  omega

/-- The top bit of `m` shifted up to bit 14 stays below bit 15. -/
theorem mul_two_pow_log2_lt {m : Nat} (hm : Nat.log2 m ≤ 14) : m * 2 ^ (14 - Nat.log2 m) < 2 ^ 15 :=
  calc m * 2 ^ (14 - Nat.log2 m)
    _ < 2 ^ (Nat.log2 m + 1) * 2 ^ (14 - Nat.log2 m) := Nat.mul_lt_mul_of_pos_right Nat.lt_log2_self (by positivity)
    _ = 2 ^ 15 := by rw [← pow_add]; congr 1; omega

/-- R148: the shifted element is a 16-bit value; −32768 is not shifted. -/
theorem rd_mul_scaleBits_range {n : Nat} (src : Vector I16 n) {i : Nat} (hi : i < n) :
    -32768 ≤ rd src i * 2 ^ (scaleBits src).toNat ∧ rd src i * 2 ^ (scaleBits src).toNat ≤ 32767 := by
  rw [scaleBits_toNat]
  have hle := abs_rd_le_maxAbs src hi
  generalize maxAbs src = m at hle ⊢
  rcases Nat.lt_or_ge 14 (Nat.log2 m.toNat) with hbig | hsmall
  · rw [Nat.sub_eq_zero_of_le hbig.le, pow_zero, mul_one]
    exact rd_range_16 src i
  · have hm : (m.toNat : Int) = m := Int.toNat_of_nonneg ((abs_nonneg _).trans hle)
    have htop : m * 2 ^ (14 - Nat.log2 m.toNat) < 2 ^ 15 := by
      have h := mul_two_pow_log2_lt hsmall
      zify at h
      rwa [hm] at h
    have habs : |rd src i * 2 ^ (14 - Nat.log2 m.toNat)| < 2 ^ 15 := by
      rw [abs_mul, abs_of_pos (by positivity : (0 : Int) < 2 ^ (14 - Nat.log2 m.toNat))]
      exact (mul_le_mul_of_nonneg_right hle (by positivity)).trans_lt htop
    obtain ⟨hlo, hhi⟩ := abs_lt.mp habs
    omega

/-- R148: the store of a normalized element wraps nothing. -/
theorem rd_scaleVector {n : Nat} (src : Vector I16 n) {i : Nat} (hi : i < n) :
    rd (scaleVector src) i = rd src i * 2 ^ (scaleBits src).toNat / 8 := by
  have hrange := rd_mul_scaleBits_range src hi
  rw [scaleVector, rd_build _ hi, toInt_ofInt_16, asr, shl]
  push_cast
  exact wrap16_of_fits (by omega) (by omega)

/-- Settles O44: an eighth of a 16-bit value fits 13 bits. -/
theorem scaleVectorNormalizes : Obligations.ScaleVectorNormalizes := by
  intro n src i hi
  have hrange := rd_mul_scaleBits_range src hi
  have hrd := rd_scaleVector src hi
  exact ⟨by omega, by omega, hrd, scaleShift_range src⟩

end Sys2Proof.Proofs
end

section
/-! A forbidden code after a frame that is not ACTIVE is comfort noise (41_unpack.md R186), and words of the encoding tables. UNPACK is
shown to fail exactly on the forbidden codes and to leave what comfort noise reads; the comfort-noise decode is shown to complete where its
lags are inside the history and its LSP values inside the cosine table. -/

namespace Sys2Proof.Proofs
open Sys2Proof.Machine

/-! ### UNPACK fails exactly on a forbidden code -/

/-- R108, R178: the gain index of the word `w` is in its table, for the lag of the pitch code `c` (R175). -/
def gainInTable (rate : Rate) (c : BitVec 7) (w : BitVec 12) : Bool :=
  decide ((gainOperand rate (pitchLagOf c).toNat w).gain < (gainOperand rate (pitchLagOf c).toNat w).tableLen)

/-- R175: a 7-bit code plus 18 fits the 8 bits of a lag. -/
theorem pitchLagOf_toNat (c : BitVec 7) : (pitchLagOf c).toNat = c.toNat + pitchMin := by
  simp only [pitchLagOf, BitVec.toNat_ofNat, pitchMin]
  omega

theorem gainInTable_r6300 (c : BitVec 7) (w : BitVec 12) : gainInTable .r6300 c w = gainOk63 c w := by
  unfold gainInTable gainOperand gainOk63
  rw [pitchLagOf_toNat]
  by_cases h : c.toNat + pitchMin < subframeLen - 2 <;> simp [h]

theorem gainInTable_r5300 (c : BitVec 7) (w : BitVec 12) : gainInTable .r5300 c w = gainOk53 w := by
  simp [gainInTable, gainOperand, gainOk53]

theorem pitchForbidden_eq (c : BitVec 7) : pitchForbidden c = !pitchCodeOk c := by
  rw [pitchForbidden, pitchCodeOk, ← decide_not, decide_eq_decide]
  omega

/-- A sequence of two unpackers is bad where the first is, or where it ends with `Q` and the second is bad on every such state. -/
theorem badFrame_bind {Q E : Persistent → Prop} {u : Unpacked} {f : Persistent → Unpacked} {a b : Bool} (hu : badFrame u = !a)
    (hQ : Ends Q E u) (hf : ∀ c, Q c → badFrame (f c) = !b) : badFrame (u >>= f) = !(a && b) := by
  cases u with
  | ok c =>
    obtain rfl : true = a := Bool.not_inj hu
    exact hf c (hQ.1 c rfl)
  | error c =>
    obtain rfl : false = a := Bool.not_inj hu
    rfl

/-- Fields written after the last check do not make a frame bad. -/
theorem badFrame_bind_ok (u : Unpacked) (f : Persistent → Persistent) : badFrame (u >>= fun c => .ok (f c)) = badFrame u := by
  cases u <;> rfl

/-- R178. -/
theorem badFrame_unpackGain (c : Persistent) (i : Nat) (w : BitVec 12) :
    badFrame (unpackGain c i w)
      = !decide ((gainOperand c.curRate (lagOf c i) w).gain < (gainOperand c.curRate (lagOf c i) w).tableLen) := by
  rcases unpackGain_cases c i w with ⟨hge, h⟩ | ⟨hlt, h⟩ <;> rw [h]
  · simp [badFrame, hge]
  · simp [badFrame, hlt]

/-- R175. -/
theorem badFrame_unpackPitch (c : Persistent) (hd : ActiveHeader) :
    badFrame (unpackPitch c hd) = !(pitchCodeOk hd.pitchCode0 && pitchCodeOk hd.pitchCode1) := by
  unfold unpackPitch
  rw [pitchForbidden_eq, pitchForbidden_eq]
  cases pitchCodeOk hd.pitchCode0 <;> cases pitchCodeOk hd.pitchCode1 <;> rfl

/-- What the check of a gain word reads: the rate, and the lags of the two pitch codes. -/
def GainChecksRead (rate : Rate) (hd : ActiveHeader) (c : Persistent) : Prop :=
  c.curRate = rate ∧ c.pitchLag = #v[pitchLagOf hd.pitchCode0, pitchLagOf hd.pitchCode1]

theorem gainChecksRead_recordClosed (rate : Rate) (hd : ActiveHeader) : RecordClosed (GainChecksRead rate hd) :=
  fun _ _ _ _ hc => by simpa [GainChecksRead] using hc

theorem unpackPitch_gainChecksRead (c : Persistent) (hd : ActiveHeader) :
    Ends (GainChecksRead c.curRate hd) (fun _ => True) (unpackPitch c hd) := by
  unfold unpackPitch
  dsimp only
  split
  · exact ends_error trivial
  · split
    · exact ends_error trivial
    · refine ends_ok ⟨by simp, ?_⟩
      ext i hi
      interval_cases i <;> simp

/-- No code of the header is forbidden at the rate (R111). -/
def headerOk (rate : Rate) (hd : ActiveHeader) : Bool :=
  pitchCodeOk hd.pitchCode0 && pitchCodeOk hd.pitchCode1
    && (gainInTable rate hd.pitchCode0 hd.gainWord0 && (gainInTable rate hd.pitchCode0 hd.gainWord1
      && (gainInTable rate hd.pitchCode1 hd.gainWord2 && gainInTable rate hd.pitchCode1 hd.gainWord3)))

/-- R175, R178: the header is bad exactly where a check of its codes fails. -/
theorem badFrame_unpackHeader (c : Persistent) (rate : Rate) (hd : ActiveHeader) :
    badFrame (unpackHeader c rate hd) = !headerOk rate hd := by
  have gain {c : Persistent} (hc : GainChecksRead rate hd c) (i : Nat) (w : BitVec 12) :
      Ends (GainChecksRead rate hd) (fun _ => True) (unpackGain c i w) :=
    unpackGain_ends (gainChecksRead_recordClosed rate hd) (fun _ _ => trivial) hc i w
  have check {c : Persistent} {i : Nat} {code : BitVec 7} {w : BitVec 12} (hc : GainChecksRead rate hd c)
      (hlag : cell #v[pitchLagOf hd.pitchCode0, pitchLagOf hd.pitchCode1] (i / 2) = pitchLagOf code) :
      badFrame (unpackGain c i w) = !gainInTable rate code w := by
    obtain ⟨hrate, hlags⟩ := hc
    rw [badFrame_unpackGain, gainInTable, lagOf, hrate, hlags, hlag]
  refine badFrame_bind (badFrame_unpackPitch _ hd) (unpackPitch_gainChecksRead _ hd) fun c0 h0 => ?_
  refine badFrame_bind (check h0 rfl) (gain h0 0 _) fun c1 h1 => ?_
  refine badFrame_bind (check h1 rfl) (gain h1 1 _) fun c2 h2 => ?_
  refine badFrame_bind (check h2 rfl) (gain h2 2 _) fun c3 h3 => ?_
  exact (badFrame_bind_ok _ _).trans (check h3 rfl)

/-- R111, R402: UNPACK of F63 fails exactly on a forbidden code. -/
theorem badFrame_unpack63 (f : Frame63) (c : Persistent) : badFrame (unpack63 f c) = !f.wellFormed := by
  rw [unpack63, badFrame_bind_ok, badFrame_unpackHeader]
  simp only [headerOk, gainInTable_r6300, Frame63.wellFormed, Bool.and_assoc]

/-- R111, R402: UNPACK of F53 fails exactly on a forbidden code. -/
theorem badFrame_unpack53 (f : Frame53) (c : Persistent) : badFrame (unpack53 f c) = !f.wellFormed := by
  rw [unpack53, badFrame_bind_ok, badFrame_unpackHeader]
  simp only [headerOk, gainInTable_r5300, Frame53.wellFormed, Bool.and_assoc]

/-- R111, R402: an instruction with a forbidden code is a frame, and its UNPACK fails. -/
theorem exec_of_forbidden {i : Instr} (hi : i.wellFormed = false) :
    ∃ unpack, IsFrame i.size unpack ∧ (∀ s, exec i s = toOutcome (runFrame i.size unpack s)) ∧ ∀ c, badFrame (unpack c) = true := by
  cases i with
  | frame63 f =>
    exact ⟨_, .frame63 f, fun _ => rfl, fun c => by rw [badFrame_unpack63, show f.wellFormed = false from hi]; rfl⟩
  | frame53 f =>
    exact ⟨_, .frame53 f, fun _ => rfl, fun c => by rw [badFrame_unpack53, show f.wellFormed = false from hi]; rfl⟩
  | nop => cases hi
  | reset => cases hi
  | decode => cases hi
  | sid f => cases hi
  | untx b => cases hi

/-! ### What UNPACK leaves of the comfort-noise fields -/

/-- The fields that comfort noise reads and UNPACK does not write agree. -/
structure SameNoiseFields (c d : Persistent) : Prop where
  past : d.pastFrameType = c.pastFrameType
  prevLsp : d.prevLsp = c.prevLsp
  sidLsp : d.sidLsp = c.sidLsp
  sidGain : d.sidGain = c.sidGain
  curGain : d.curGain = c.curGain
  erased : d.erasedFrames = c.erasedFrames

theorem sameNoiseFields_recordClosed (c : Persistent) : RecordClosed (SameNoiseFields c) := fun _ _ _ _ hd =>
  ⟨by simpa using hd.past, by simpa using hd.prevLsp, by simpa using hd.sidLsp, by simpa using hd.sidGain,
    by simpa using hd.curGain, by simpa using hd.erased⟩

theorem unpackPitch_sameNoiseFields {c d : Persistent} (hd : SameNoiseFields c d) (h : ActiveHeader) :
    Ends (SameNoiseFields c) (SameNoiseFields c) (unpackPitch d h) := by
  have record {d : Persistent} (hd : SameNoiseFields c d) (i : Nat) (lag : BitVec 2) :
      SameNoiseFields c (setSubframe d i fun sf => { sf with adCbLag := lag }) :=
    sameNoiseFields_recordClosed c d i _ (fun _ hsf => hsf) hd
  have lag {d : Persistent} (hd : SameNoiseFields c d) (lags : Vector (BitVec 8) 2) :
      SameNoiseFields c { d with pitchLag := lags } := { hd with }
  unfold unpackPitch
  dsimp only
  split
  · exact ends_error hd
  · split
    · exact ends_error (record (lag hd _) 1 _)
    · exact ends_ok (record (record (record (lag (record (lag hd _) 1 _) _) 3 _) 0 _) 2 _)

/-- R170–R186: UNPACK and the remap write none of the fields that comfort noise starts from. -/
theorem remapped_sameNoiseFields {size : Nat} {unpack : Persistent → Unpacked} (hf : IsFrame size unpack) (c : Persistent) :
    SameNoiseFields c (remapped (unpack c)) := by
  refine remapped_keeps (unpack_ends hf (sameNoiseFields_recordClosed c) (fun _ h => h) (fun rate h => ?_) (fun idx => ?_) ?_)
    fun d ty hd => { hd with }
  · refine unpackPitch_sameNoiseFields ?_ h
    exact ⟨rfl, rfl, rfl, rfl, rfl, rfl⟩
  · exact ⟨rfl, rfl, rfl, rfl, rfl, rfl⟩
  · exact ⟨rfl, rfl, rfl, rfl, rfl, rfl⟩

/-- R186: a bad frame after a frame that is not ACTIVE is an UNTRANSMITTED one. -/
theorem remapped_untransmitted {u : Unpacked} (hbad : badFrame u = true) (hpast : (remapped u).pastFrameType ≠ .active) :
    (remapped u).curFrameType = .untransmitted := by
  rcases remapped_cases u with ⟨c, _, hgood, _⟩ | ⟨c, _, _, hactive, hr⟩ | ⟨c, _, _, _, hr⟩
  · rw [hgood] at hbad
    cases hbad
  · rw [hr] at hpast
    exact absurd hactive hpast
  · rw [hr]

/-! ### The comfort-noise decode completes -/

/-- The computation gives a value. -/
def Completes {α : Type} (x : Except Fault α) : Prop := ∃ a, x = .ok a

theorem completes_ok {α : Type} (a : α) : Completes (.ok a) := ⟨a, rfl⟩

theorem completes_bind {α β : Type} {x : Except Fault α} {f : α → Except Fault β} (hx : Completes x)
    (hf : ∀ a, x = .ok a → Completes (f a)) : Completes (x >>= f) := by
  obtain ⟨a, ha⟩ := hx
  obtain ⟨b, hb⟩ := hf a ha
  exact ⟨b, bind_eq_ok.mpr ⟨a, ha, hb⟩⟩

/-- R207: a value with an entry of the cosine table and a next one. -/
theorem negCos_completes {tab : CosTable} {v : Int} (h : 0 ≤ asr v 7 ∧ asr v 7 + 1 < (tab.len : Int)) :
    Completes (negCos tab v) := by
  unfold negCos
  dsimp only
  rw [if_neg (by omega)]
  exact completes_ok _

/-- R206–R210. -/
theorem lsp2lpc_completes {tab : CosTable} {v : Vector I16 10} (h : LspInTable tab v) : Completes (lsp2lpc tab v) := by
  have cosine (k : Fin 10) : Completes (negCos tab (rd v k)) := negCos_completes (h k)
  exact completes_bind (cosine 0) fun _ _ => completes_bind (cosine 1) fun _ _ => completes_bind (cosine 2) fun _ _ =>
    completes_bind (cosine 3) fun _ _ => completes_bind (cosine 4) fun _ _ => completes_bind (cosine 5) fun _ _ =>
    completes_bind (cosine 6) fun _ _ => completes_bind (cosine 7) fun _ _ => completes_bind (cosine 8) fun _ _ =>
    completes_bind (cosine 9) fun _ _ => completes_ok _

/-- R212. -/
theorem lspInterp_completes {tab : CosTable} {cur prev : Vector I16 10} (h : InterpInTable tab cur prev) :
    Completes (lspInterp tab cur prev) := by
  have coefs (s : Fin 4) : Completes (lsp2lpc tab (interpolated cur prev s)) := lsp2lpc_completes (h s)
  exact completes_bind (coefs 0) fun _ _ => completes_bind (coefs 1) fun _ _ => completes_bind (coefs 2) fun _ _ =>
    completes_bind (coefs 3) fun _ _ => completes_ok _

/-- R239: the taps of a gain index below 85, which both tables have. -/
theorem acbTaps_completes (rom : Rom) (rate : Rate) (lag : Nat) {sf : Subframe} (h : sf.adCbGain.toNat < 85) :
    Completes (acbTaps rom rate lag sf) := by
  have tap {k : Nat} (hk : k < 5) : Completes (acbTap rom rate lag sf k) :=
    acbTap_of_gain rom rate lag sf hk (by split <;> omega)
  exact completes_bind (tap (by decide)) fun _ _ => completes_bind (tap (by decide)) fun _ _ =>
    completes_bind (tap (by decide)) fun _ _ => completes_bind (tap (by decide)) fun _ _ =>
    completes_bind (tap (by decide)) fun _ _ => completes_ok _

/-- R238–R240: an effective lag inside the history, and a gain index of both tables. -/
theorem adaptiveCodebook_completes (rom : Rom) (rate : Rate) (e : ExcBuf) (base : Nat) {lag : Nat} {sf : Subframe}
    (hlag : 1 ≤ acbLag lag sf ∧ acbLag lag sf ≤ 144) (hgain : sf.adCbGain.toNat < 85) :
    Completes (adaptiveCodebook rom rate e base lag sf) := by
  obtain ⟨taps, htaps⟩ := acbTaps_completes rom rate lag hgain
  rcases adaptiveCodebook_cases rom rate e base lag sf with ⟨hout, _⟩ | ⟨_, _, ⟨d, hd, _⟩ | ⟨_, _, h⟩⟩
  · omega
  · rw [htaps] at hd
    cases hd
  · exact ⟨_, h⟩

/-- R347: the gain indices of a comfort-noise frame are those drawn. -/
theorem writeDraws_adCbGain (p : Params) (seed : BitVec 16) (c : Persistent) {s : Nat} (hs : s < 4) :
    (subframeAt (writeDraws p (noiseDraws seed) c) s).adCbGain.toNat ≤ 50 := by
  have hdraw := noiseDraws_gain_le seed hs
  have hwrite : (subframeAt (writeDraws p (noiseDraws seed) c) s).adCbGain
      = BitVec.ofNat 8 ((noiseDraws seed).gains.getD s 0) := by
    generalize noiseDraws seed = d
    unfold writeDraws
    interval_cases s <;> simp [subframeAt_setSubframe_other]
  rw [hwrite, BitVec.toNat_ofNat]
  omega

/-- R350: a pair of subframes of a comfort-noise excitation. -/
theorem noisePair_completes {p : Params} (hp : NoiseLagsOk p) (seed : BitVec 16) (c : Persistent) (e : ExcBuf) {k : Nat}
    (hk : k < 2) (pos : List Nat) (sign : List Int) :
    Completes (noisePair p (writeDraws p (noiseDraws seed) c) e k pos sign) := by
  have sub (e : ExcBuf) {s : Nat} (hs : s < 4) : Completes (noiseSubframe p (writeDraws p (noiseDraws seed) c) e s) :=
    completes_bind (adaptiveCodebook_completes _ _ _ _ (acbLagsOk_writeDraws hp seed c s hs)
      (Nat.lt_of_le_of_lt (writeDraws_adCbGain p seed c hs) (by decide))) fun _ _ => completes_ok _
  exact completes_bind (sub e (by omega)) fun e0 _ => completes_bind (sub e0 (by omega)) fun _ _ => completes_ok _

/-- R341, R350–R356: the lags and gains a comfort-noise frame draws are in range. -/
theorem generateNoise_completes {p : Params} (hp : NoiseLagsOk p) (c : Persistent) : Completes (generateNoise p c) :=
  completes_bind (noisePair_completes hp _ c _ (by decide) _ _) fun e _ =>
    completes_bind (noisePair_completes hp _ c e (by decide) _ _) fun _ _ => completes_ok _

/-- R370 step 4: a comfort-noise decode whose interpolated LSP values have cosine entries. -/
theorem decodeNoise_completes {p : Params} (hp : NoiseLagsOk p) {c : Persistent}
    (hlsp : InterpInTable p.rom.cosTab (sidUpdate p c).sidLsp c.prevLsp) : Completes (decodeNoise p c) := by
  refine completes_bind (generateNoise_completes hp _) fun r hr => completes_bind ?_ fun _ _ => completes_ok _
  obtain ⟨_, _, _, _, rfl⟩ := generateNoise_ok hr
  refine lspInterp_completes ?_
  simpa using hlsp

/-! ### What a comfort-noise decode leaves -/

/-- R378: the reference LSP of the frame becomes the previous LSP. -/
theorem decodeNoise_prevLsp {p : Params} {c : Persistent} {j : SynthesisJob} (h : decodeNoise p c = .ok j) :
    j.core.prevLsp = (sidUpdate p c).sidLsp := by
  obtain ⟨r, _, hr, _, rfl⟩ := decodeNoise_ok h
  obtain ⟨_, _, _, _, rfl⟩ := generateNoise_ok hr
  simp

/-- R377: the gain target of an UNTRANSMITTED frame is estimated after an ACTIVE frame only. -/
theorem sidUpdate_of_untransmitted (p : Params) {c : Persistent} (hcur : c.curFrameType = .untransmitted)
    (hpast : c.pastFrameType ≠ .active) : sidUpdate p c = c := by
  simp [sidUpdate, hcur, hpast]

/-- R362: seven eighths of the old gain and one eighth of the target fit 32 bits. -/
theorem smoothCurGain_curGain (p : Params) {c : Persistent} (hpast : c.pastFrameType ≠ .active) :
    (smoothCurGain p c).curGain.toInt = (7 * c.curGain.toInt + c.sidGain.toInt) / 8 := by
  have hcur := toInt_range_32 c.curGain
  have hsid := toInt_range_32 c.sidGain
  simp only [smoothCurGain, hpast, and_false, if_false, asr]
  rw [toInt_ofInt_32, wrap32_of_fits (by omega) (by omega)]
  norm_num

/-- R377, R378, R362: what an UNTRANSMITTED frame after a frame that is not ACTIVE leaves of the fields it starts from. -/
theorem decodeNoise_of_untransmitted {p : Params} {c : Persistent} {j : SynthesisJob} (h : decodeNoise p c = .ok j)
    (hcur : c.curFrameType = .untransmitted) (hpast : c.pastFrameType ≠ .active) :
    j.core.curFrameType = .untransmitted ∧ j.core.erasedFrames = c.erasedFrames ∧ j.core.prevLsp = c.sidLsp
      ∧ j.core.sidGain = c.sidGain ∧ j.core.curGain.toInt = (7 * c.curGain.toInt + c.sidGain.toInt) / 8 := by
  have hlsp := decodeNoise_prevLsp h
  obtain ⟨_, _, _, hj⟩ := decodeNoise_core h
  rw [sidUpdate_of_untransmitted p hcur hpast] at hlsp hj
  refine ⟨?_, ?_, hlsp, ?_, ?_⟩
  · simp [hj, hcur]
  · simp [hj]
  · simp [hj]
  · simp [hj, smoothCurGain_curGain p hpast]

/-! ### A forbidden code after a frame that is not ACTIVE -/

/-- R370, R381: a frame that is not short, whose part by type gives `j`, produces samples and reports them. -/
theorem runFrame_of_decodeByType {size : Nat} {unpack : Persistent → Unpacked} {s : State} {j : SynthesisJob}
    (hlen : size ≤ s.regs.inLen.toNat)
    (hj : decodeByType s.params (badFrame (unpack s.core)) (remapped (unpack s.core)) = .ok j) :
    runFrame size unpack s = .ok { s with
      core := (finish s.params j).1
      regs := reportDecode size (badFrame (unpack s.core)) (finish s.params j).2 s.regs } := by
  have hd : decodeUnpacked s.params (unpack s.core) = .ok (finish s.params j) := bind_eq_ok.mpr ⟨j, hj, rfl⟩
  rcases runFrame_cases size unpack s with ⟨hshort, _⟩ | ⟨_, ⟨e, he, _⟩ | ⟨c, out, hc, hr⟩⟩
  · omega
  · rw [hd] at he
    cases he
  · rw [hd] at hc
    cases hc
    exact hr

/-- Settles O16: UNPACK fails, the remap makes the frame UNTRANSMITTED, and the comfort-noise decode completes on the fields UNPACK
left as they were. -/
theorem badFrameElsewhereIsNoise : Obligations.BadFrameElsewhereIsNoise := by
  rintro i s ⟨hill, hlen⟩ ⟨hpast, hlags, hlsp⟩
  obtain ⟨unpack, hf, hexec, hfails⟩ := exec_of_forbidden hill
  have hbad := hfails s.core
  have hsame := remapped_sameNoiseFields hf s.core
  rw [← hsame.past] at hpast
  have hcur := remapped_untransmitted hbad hpast
  obtain ⟨j, hj⟩ : Completes (decodeNoise s.params (remapped (unpack s.core))) := by
    refine decodeNoise_completes hlags ?_
    rwa [sidUpdate_of_untransmitted _ hcur hpast, hsame.sidLsp, hsame.prevLsp]
  obtain ⟨htype, herased, hprev, hsid, hgain⟩ := decodeNoise_of_untransmitted hj hcur hpast
  have hrun := runFrame_of_decodeByType hlen (by rw [decodeByType, hcur]; exact hj)
  obtain ⟨_, _, _, _, _, hfin, _⟩ := finish_core s.params j
  refine ⟨_, (hexec s).trans (toOutcome_eq_next.mpr hrun), ?_⟩
  rw [hbad, hfin]
  refine ⟨htype, herased.trans hsame.erased, hprev.trans hsame.sidLsp, hsid.trans hsame.sidGain, ?_, rfl, ?_, ?_⟩
  · rw [← hsame.curGain, ← hsame.sidGain]
    exact hgain
  · exact Nat.mod_eq_of_lt (Nat.lt_of_le_of_lt hf.size_le (by decide))
  · change statusByte .ok true j.core.curFrameType = 0x24
    rw [htype]
    rfl

/-! ### Words of the encoding tables -/

/-- Settles O54: each word is the encoding of its instruction, so it decodes to it. -/
theorem someWordsDecode : Obligations.SomeWordsDecode := by
  have word {src : Source} {i : Instr} {bs : List Byte} (hsource : i.source = src) (h : encode i = bs) :
      decode src bs = .ok i := hsource ▸ h ▸ decodeOfEncodeIsIdentity i
  exact ⟨word rfl (by decide), word rfl (by decide), word rfl (by decide), word rfl (by decide)⟩

end Sys2Proof.Proofs
end

section
/-! Line spectral pairs (42_lsp.md R200–R212). The stability flag of the dequantizer is only ever set together with a vector that
passes the test; each extension of a polynomial halves its first coefficient; an interpolation is a weighted mean, so that neither its
clip nor its store changes it. -/

namespace Sys2Proof.Proofs
open Sys2Proof.Machine

/-! ### The dequantizer -/

/-- R203: the test is the bound of R204 on each pair of neighbours. -/
theorem isStable_iff {dist : Int} {out : Vector I16 10} :
    isStable dist out = true ↔ ∀ j, j < 9 → dist - 4 ≤ rd out (j + 1) - rd out j := by
  simp only [isStable, List.all_eq_true, List.mem_range, decide_eq_true_eq]
  refine forall₂_congr fun j _ => ?_
  omega

/-- R203: the loop reports a vector as stable only when that vector passed the test. -/
theorem isStable_of_stabilityLoop {dist : Int} {out : Vector I16 10} (h : (stabilityLoop dist out).2 = true) :
    isStable dist (stabilityLoop dist out).1 = true := by
  refine loop_invariant (fun p : Vector I16 10 × Bool => p.2 = true → isStable dist p.1 = true) 10 (out, false) _ nofun
    (fun _ p _ hp => ?_) h
  split
  · exact hp
  · exact id

/-- R203: the dequantizer falls back to the previous vector, or gives one that passes the stability test. -/
theorem lspDequant_cases (rom : Rom) (prev : Vector I16 10) (idx : Vector (BitVec 8) 3) (bad : Bool) :
    lspDequant rom prev idx bad = prev ∨ isStable (minDist bad) (lspDequant rom prev idx bad) = true := by
  unfold lspDequant
  dsimp only
  split
  next hstable => exact .inr (isStable_of_stabilityLoop hstable)
  next => exact .inl rfl

/-- Settles O27: what passes the test has the spacing. -/
theorem dequantIsStableOrPrevious : Obligations.DequantIsStableOrPrevious := fun rom prev idx bad =>
  (lspDequant_cases rom prev idx bad).imp_right isStable_iff.mp

/-! ### The negative cosine -/

/-- R207: a fault where the table has no entry or no next one, and a 16-bit value anywhere else. -/
theorem negCos_cases (tab : CosTable) (v : Int) :
    ((asr v 7 < 0 ∨ (tab.len : Int) ≤ asr v 7 + 1) ∧ negCos tab v = .error .romIndexFault)
      ∨ (¬(asr v 7 < 0 ∨ (tab.len : Int) ≤ asr v 7 + 1) ∧ ∃ x, negCos tab v = .ok (wrap16 x)) := by
  unfold negCos
  dsimp only
  split
  next houtside => exact .inl ⟨houtside, rfl⟩
  next hinside => exact .inr ⟨hinside, _, rfl⟩

/-- Settles O28: the two outcomes of R207 exclude each other. -/
theorem negCosFaultsExactlyOutsideTable : Obligations.NegCosFaultsExactlyOutsideTable := by
  intro tab v
  rcases negCos_cases tab v with ⟨houtside, hfault⟩ | ⟨hinside, x, hvalue⟩
  · rw [hfault]
    exact ⟨iff_of_true rfl houtside, nofun⟩
  · rw [hvalue]
    refine ⟨iff_of_false nofun hinside, fun n hn => ?_⟩
    cases hn
    exact wrap16_range x

/-! ### The polynomials -/

/-- R208: the first coefficient begins as 1 in Q28. -/
theorem rd_polyInit_zero (a b : Int) : rd (polyInit a b) 0 = 2 ^ 28 := by
  unfold polyInit
  rw [rd_wr_other _ _ (by decide), rd_wr_other _ _ (by decide), rd_wr_same _ _ (by decide)]
  rfl

/-- R13: an element that no iteration writes keeps its value. -/
theorem rd_loop_of_unwritten {w n m j : Nat} {v : Vector (BitVec w) m} {f : Vector (BitVec w) m → Nat → Vector (BitVec w) m}
    (h : ∀ u k, k < n → rd (f u k) j = rd u j) : rd (loop n v f) j = rd v j :=
  loop_invariant (fun u => rd u j = rd v j) n v f rfl fun k u hk hu => (h u k hk).trans hu

/-- R209: each extension halves the first coefficient; its inner loop writes elements from 2 on. -/
theorem rd_polyStep_zero (f : Vector I32 6) (i : Nat) (x : Int) : rd (polyStep f i x) 0 = rd f 0 / 2 := by
  have hrange := rd_range_32 f 0
  unfold polyStep
  dsimp only
  rw [rd_wr_other _ _ (by decide), rd_wr_same _ _ (by decide), toInt_ofInt_32,
    rd_loop_of_unwritten fun _ _ _ => rd_wr_other _ _ (by omega), rd_wr_other _ _ (Nat.succ_ne_zero i).symm]
  unfold asr
  exact wrap32_of_fits (by omega) (by omega)

/-- Settles O29: three halvings of 2^28. -/
theorem polynomialsEndInQ25 : Obligations.PolynomialsEndInQ25 := by
  intro x0 x1 x2 x3 x4
  calc rd (poly x0 x1 x2 x3 x4) 0
    _ = rd (polyInit x0 x1) 0 / 2 / 2 / 2 := by rw [poly, rd_polyStep_zero, rd_polyStep_zero, rd_polyStep_zero]
    _ = 2 ^ 25 := by rw [rd_polyInit_zero]; norm_num

/-! ### The interpolator -/

/-- R150: a rounded mean with weights that sum to `2^14` lies between the two values, so its clip changes nothing. -/
theorem wsum_between {a b wa wb : Int} (ha : -32768 ≤ a ∧ a ≤ 32767) (hb : -32768 ≤ b ∧ b ≤ 32767) (hwa : 0 ≤ wa)
    (hwb : 0 ≤ wb) (hsum : wa + wb = 16384) :
    min a b ≤ wsum a b wa wb 8192 14 ∧ wsum a b wa wb 8192 14 ≤ max a b := by
  have hlo : min a b * 16384 ≤ a * wa + b * wb := by
    rw [← hsum, mul_add]
    gcongr
    · exact min_le_left a b
    · exact min_le_right a b
  have hhi : a * wa + b * wb ≤ max a b * 16384 := by
    rw [← hsum, mul_add]
    gcongr
    · exact le_max_left a b
    · exact le_max_right a b
  unfold wsum asr
  rw [clip16_of_fits (by omega) (by omega)]
  omega

/-- R150: a clipped mean is stored as it is. -/
theorem toInt_ofInt_wsum (a b wa wb rnd : Int) (sh : Nat) :
    (BitVec.ofInt 16 (wsum a b wa wb rnd sh)).toInt = wsum a b wa wb rnd sh := by
  obtain ⟨hlo, hhi⟩ := clip16_range (asr (a * wa + b * wb + rnd) sh)
  exact (toInt_ofInt_16 _).trans (wrap16_of_fits hlo hhi)

/-- R212: before the last subframe the current vector has the weight `(s + 1) / 4`. -/
theorem interpolated_of_lt (cur prev : Vector I16 10) {s : Nat} (hs : s < 3) :
    interpolated cur prev s = build fun i => wsum (rd cur i) (rd prev i) (4096 * (s + 1)) (4096 * (3 - s)) 8192 14 := by
  interval_cases s <;> norm_num [interpolated]

/-- R212: from the last subframe on the vector is the current one. -/
theorem interpolated_of_ge (cur prev : Vector I16 10) {s : Nat} (hs : 3 ≤ s) : interpolated cur prev s = cur := by
  rw [interpolated, if_neg (by omega), if_neg (by omega), if_neg (by omega)]

/-- R212: an interpolated value lies between the two it is interpolated from. -/
theorem rd_interpolated_between (cur prev : Vector I16 10) (s : Nat) {j : Nat} (hj : j < 10) :
    min (rd cur j) (rd prev j) ≤ rd (interpolated cur prev s) j
      ∧ rd (interpolated cur prev s) j ≤ max (rd cur j) (rd prev j) := by
  rcases Nat.lt_or_ge s 3 with hmix | hlast
  · rw [interpolated_of_lt cur prev hmix, rd_build _ hj, toInt_ofInt_wsum]
    exact wsum_between (rd_range_16 cur j) (rd_range_16 prev j) (by omega) (by omega) (by omega)
  · rw [interpolated_of_ge cur prev hlast]
    exact ⟨min_le_left _ _, le_max_left _ _⟩

/-- Settles O30. -/
theorem interpolationStaysBetween : Obligations.InterpolationStaysBetween := by
  intro cur prev s j hj
  obtain ⟨hlo, hhi⟩ := rd_interpolated_between cur prev s hj
  exact ⟨hlo, hhi, interpolated_of_ge cur prev le_rfl⟩

end Sys2Proof.Proofs
end

section
/-! The fixed codebooks of both rates (43_excitation.md R231–R237). The combinatorial decode follows Pascal's rule: of the
`C(m + 1, k + 1)` selections, the first `C(m, k)` take the slot looked at and the others do not. Each sample of a codebook vector is read
off the store that wrote it. -/

namespace Sys2Proof.Proofs
open Sys2Proof.Machine

/-! ### The combinatorial decode -/

/-- R231: with no pulse left, there is one index and no slot. -/
theorem selectSlots_pulseMax (m t : Nat) : selectSlots m pulseMax t = [] := by cases m <;> simp [selectSlots]

/-- R231, R51: the selections of the last `m + 1` slots that take the first of them, and those that do not. -/
theorem choose_pulsesLeft {m j : Nat} (hj : j < pulseMax) :
    Nat.choose (m + 1) (pulseMax - j) = Nat.choose m (pulseMax - (j + 1)) + Nat.choose m (pulseMax - j) := by
  rw [← Nat.succ_sub_succ pulseMax j, Nat.succ_sub hj, Nat.choose_succ_succ']

/-- R231: for an index in range, the decode is finished, or takes the slot looked at, or passes it, and the index stays in range. -/
theorem selectSlots_cases {m j t : Nat} (hm : m < 30) (hj : j ≤ pulseMax) (ht : t < Nat.choose (m + 1) (pulseMax - j)) :
    (j = pulseMax ∧ t = 0 ∧ selectSlots (m + 1) j t = [])
    ∨ (j < pulseMax ∧ t < Nat.choose m (pulseMax - (j + 1)) ∧ selectSlots (m + 1) j t = (29 - m) :: selectSlots m (j + 1) t)
    ∨ (j < pulseMax ∧ ∃ u, t = Nat.choose m (pulseMax - (j + 1)) + u ∧ u < Nat.choose m (pulseMax - j)
        ∧ selectSlots (m + 1) j t = selectSlots m j u) := by
  rcases hj.eq_or_lt with rfl | hlt
  · exact .inl ⟨rfl, by simpa using ht, selectSlots_pulseMax _ _⟩
  · have htable : combinatorialTable j (29 - m) = Nat.choose m (pulseMax - (j + 1)) := by
      rw [combinatorialTable, Nat.sub_sub_self (by omega)]
      exact congrArg _ (Nat.add_sub_add_right 5 1 j).symm
    rw [choose_pulsesLeft hlt] at ht
    rw [selectSlots, if_neg hlt.ne, htable]
    rcases Nat.lt_or_ge t (Nat.choose m (pulseMax - (j + 1))) with htake | hpass
    · exact .inr (.inl ⟨hlt, htake, if_pos htake⟩)
    · exact .inr (.inr ⟨hlt, t - Nat.choose m (pulseMax - (j + 1)), by omega, by omega, if_neg (by omega)⟩)

/-- R51: no slots are left, so no pulse is, and the index is 0. -/
theorem pulsesLeft_zero {j t : Nat} (hj : j ≤ pulseMax) (ht : t < Nat.choose 0 (pulseMax - j)) : j = pulseMax ∧ t = 0 := by
  rcases hj.eq_or_lt with rfl | hlt
  · exact ⟨rfl, by simpa using ht⟩
  · rw [Nat.choose_eq_zero_of_lt (by omega)] at ht
    exact absurd ht (Nat.not_lt_zero t)

/-- `k` of the last `m` of the 30 slots, in increasing order. -/
structure Selection (m k : Nat) (l : List Nat) : Prop where
  length : l.length = k
  sorted : l.Pairwise (· < ·)
  range : ∀ x ∈ l, 30 - m ≤ x ∧ x < 30

theorem selection_nil (m : Nat) : Selection m 0 [] := ⟨rfl, .nil, nofun⟩

/-- A selection of later slots, with the slot looked at before it. -/
theorem Selection.take {m k : Nat} {l : List Nat} (hm : m < 30) (h : Selection m k l) : Selection (m + 1) (k + 1) ((29 - m) :: l) := by
  obtain ⟨hlength, hsorted, hrange⟩ := h
  refine ⟨by rw [List.length_cons, hlength], .cons (fun x hx => ?_) hsorted, fun x hx => ?_⟩
  · have := hrange x hx
    omega
  · rcases List.mem_cons.mp hx with rfl | hx
    · omega
    · have := hrange x hx
      omega

/-- A selection of later slots. -/
theorem Selection.pass {m k : Nat} {l : List Nat} (h : Selection m k l) : Selection (m + 1) k l where
  length := h.length
  sorted := h.sorted
  range x hx := by
    have := h.range x hx
    omega

/-- R231: an index in range selects as many slots as pulses are left. -/
theorem selectSlots_selection {m : Nat} (hm : m ≤ 30) {j t : Nat} (hj : j ≤ pulseMax) (ht : t < Nat.choose m (pulseMax - j)) :
    Selection m (pulseMax - j) (selectSlots m j t) := by
  induction m generalizing j t with
  | zero =>
    obtain ⟨rfl, -⟩ := pulsesLeft_zero hj ht
    exact selection_nil 0
  | succ m ih =>
    rcases selectSlots_cases hm hj ht with ⟨rfl, -, h⟩ | ⟨hlt, htake, h⟩ | ⟨-, u, -, hu, h⟩ <;> rw [h]
    · exact selection_nil _
    · have hleft : pulseMax - j = pulseMax - (j + 1) + 1 := by omega
      rw [hleft]
      exact (ih (by omega) hlt htake).take hm
    · exact (ih (by omega) hj hu).pass

/-- R231: a slot that a decode takes is not among those of a decode that passes it. -/
theorem take_ne_selectSlots {m j u : Nat} {l : List Nat} (hm : m < 30) (hj : j ≤ pulseMax) (hu : u < Nat.choose m (pulseMax - j)) :
    (29 - m) :: l ≠ selectSlots m j u := fun h => by
  have := (selectSlots_selection hm.le hj hu).range (29 - m) (h ▸ List.mem_cons_self)
  omega

/-- R231: different indices in range select different slots. -/
theorem selectSlots_injective {m : Nat} (hm : m ≤ 30) {j t t' : Nat} (hj : j ≤ pulseMax) (ht : t < Nat.choose m (pulseMax - j))
    (ht' : t' < Nat.choose m (pulseMax - j)) (heq : selectSlots m j t = selectSlots m j t') : t = t' := by
  induction m generalizing j t t' with
  | zero => rw [(pulsesLeft_zero hj ht).2, (pulsesLeft_zero hj ht').2]
  | succ m ih =>
    rcases selectSlots_cases hm hj ht with ⟨hdone, h0, -⟩ | ⟨hlt, htake, h⟩ | ⟨hlt, u, rfl, hu, h⟩
    · rcases selectSlots_cases hm hj ht' with ⟨-, h0', -⟩ | ⟨hlt, -⟩ | ⟨hlt, -⟩
      · rw [h0, h0']
      · exact absurd hdone hlt.ne
      · exact absurd hdone hlt.ne
    · rw [h] at heq
      rcases selectSlots_cases hm hj ht' with ⟨hdone, -⟩ | ⟨-, htake', h'⟩ | ⟨-, u', -, hu', h'⟩
      · exact absurd hdone hlt.ne
      · exact ih (by omega) hlt htake htake' (List.cons.inj (heq.trans h')).2
      · exact absurd (heq.trans h') (take_ne_selectSlots hm hj hu')
    · rw [h] at heq
      rcases selectSlots_cases hm hj ht' with ⟨hdone, -⟩ | ⟨-, -, h'⟩ | ⟨-, u', rfl, hu', h'⟩
      · exact absurd hdone hlt.ne
      · exact absurd (h'.symm.trans heq.symm) (take_ne_selectSlots hm hj hu)
      · rw [ih (by omega) hj hu hu' (heq.trans h')]

/-- R51: the decode starts with `pulses[s]` pulses left. -/
theorem pulseMax_sub_start (s : Nat) : pulseMax - (pulseMax - pulses s) = pulses s := by
  unfold pulses
  split <;> rfl

/-- R51: `max_pos[s]` counts the selections the decode starts with. -/
theorem maxPos_eq (s : Nat) : maxPos s = Nat.choose 30 (pulseMax - (pulseMax - pulses s)) := by rw [pulseMax_sub_start, maxPos]

/-- R231. -/
theorem slots63_selection {s t : Nat} (ht : t < maxPos s) : Selection 30 (pulses s) (slots63 s t) := by
  have h := selectSlots_selection le_rfl (Nat.sub_le _ _) (maxPos_eq s ▸ ht)
  rwa [pulseMax_sub_start] at h

/-- Settles O32. -/
theorem pulsePositionsSelectDistinctSlots : Obligations.PulsePositionsSelectDistinctSlots := by
  intro s t _ ht
  obtain ⟨hlength, hsorted, hrange⟩ := slots63_selection ht
  refine ⟨hlength, hsorted, fun x hx => (hrange x hx).2, fun t' ht' heq => ?_⟩
  rw [maxPos_eq] at ht ht'
  exact selectSlots_injective le_rfl (Nat.sub_le _ _) ht' ht heq

/-! ### The pulses at 6300 bit/s -/

/-- R231: a sample at no slot keeps its value. -/
theorem rd_placePulses_other {fcb : SubframeVec} {grid bits : Nat} {sign : BitVec 8} {g : Int} {slots : List Nat} {x : Nat}
    (hx : ∀ slot ∈ slots, x ≠ grid + 2 * slot) : rd (placePulses fcb grid sign g bits slots) x = rd fcb x := by
  induction slots generalizing fcb bits with
  | nil => rfl
  | cons slot rest ih =>
    obtain ⟨hslot, hrest⟩ := List.forall_mem_cons.mp hx
    rw [placePulses, ih hrest, rd_wr_other _ _ hslot]

/-- R231: pulse `p` takes the sign bit `bits − 1 − p`; later pulses go to other slots. -/
theorem rd_placePulses_slot {fcb : SubframeVec} {grid bits : Nat} {sign : BitVec 8} {g : Int} {slots : List Nat}
    (hsorted : slots.Pairwise (· < ·)) (hrange : ∀ slot ∈ slots, grid + 2 * slot < 60) {p : Nat} (hp : p < slots.length) :
    rd (placePulses fcb grid sign g bits slots) (grid + 2 * slots[p]) = wrap16 (sign63 (sign.getLsbD (bits - 1 - p)) g) := by
  induction slots generalizing fcb bits p with
  | nil => exact absurd hp (Nat.not_lt_zero p)
  | cons slot rest ih =>
    obtain ⟨hlater, hsorted⟩ := List.pairwise_cons.mp hsorted
    obtain ⟨hslot, hrange⟩ := List.forall_mem_cons.mp hrange
    cases p with
    | zero =>
      have hkept : ∀ later ∈ rest, grid + 2 * slot ≠ grid + 2 * later := fun later hl => by
        have := hlater later hl
        omega
      rw [placePulses, List.getElem_cons_zero, rd_placePulses_other hkept, rd_wr_same _ _ hslot, toInt_ofInt_16, Nat.sub_zero]
    | succ p =>
      rw [placePulses, List.getElem_cons_succ, ih hsorted hrange, Nat.sub_sub (bits - 1), Nat.add_comm 1 p]

/-- The vector at 6300 bit/s before the Dirac train (R231, R233), for the gain `g`. -/
def multipulse (s : Nat) (sf : Subframe) (g : Int) : SubframeVec :=
  placePulses (Vector.replicate 60 0) sf.gridIndex.toNat sf.pulseSign g (pulses s) (slots63 s sf.pulsePos.toNat)

/-- R231: the vector and its overlay, for an index and an amplitude in range. -/
theorem fcb63_of_lt (rom : Rom) {s : Nat} {sf : Subframe} (lag : Nat) (hpos : sf.pulsePos.toNat < maxPos s)
    (hamp : sf.ampIndex.toNat < 24) :
    fcb63 rom s sf lag = .ok (if sf.diracTrain = 1 then dirac (multipulse s sf rom.fixedCbGain[sf.ampIndex.toNat].toInt) lag
      else multipulse s sf rom.fixedCbGain[sf.ampIndex.toNat].toInt) := by
  rw [fcb63, if_neg (Nat.not_le.mpr hpos), romRead_of_lt _ hamp, rd_of_lt _ hamp]
  rfl

/-- R232. -/
theorem fcb63_of_ge (rom : Rom) {s : Nat} {sf : Subframe} (lag : Nat) (hpos : maxPos s ≤ sf.pulsePos.toNat) :
    fcb63 rom s sf lag = .ok (Vector.replicate 60 0) := if_pos hpos

/-- Settles O34. -/
theorem outOfRangePositionIsSilent : Obligations.OutOfRangePositionIsSilent := fun rom _ _ lag hpos =>
  ⟨_, fcb63_of_ge rom lag hpos, rfl⟩

/-- Settles O33: a slot below 30 and a grid bit give a sample below 60. -/
theorem multipulseVectorAt6300 : Obligations.MultipulseVectorAt6300 := by
  intro rom s sf lag _ hpos hamp
  obtain ⟨-, hsorted, hrange⟩ := slots63_selection hpos
  have hgrid := sf.gridIndex.isLt
  have hsample : ∀ slot ∈ slots63 s sf.pulsePos.toNat, sf.gridIndex.toNat + 2 * slot < 60 := fun slot hslot => by
    have := hrange slot hslot
    omega
  refine ⟨multipulse s sf rom.fixedCbGain[sf.ampIndex.toNat].toInt, fun p hp => rd_placePulses_slot hsorted hsample hp,
    fun x hx => (rd_placePulses_other hx).trans (rd_replicate_zero x), fun hdirac => ?_, fun hdirac => ?_⟩
  · rw [fcb63_of_lt rom lag hpos hamp, if_neg (by rw [hdirac]; decide)]
  · rw [fcb63_of_lt rom lag hpos hamp, if_pos hdirac]

/-! ### The Dirac train -/

/-- Sample `x` of the copy of `fcb` shifted by `i` (R234). -/
def shifted (fcb : SubframeVec) (x i : Nat) : Int := if i ≤ x then rd fcb (x - i) else 0

/-- R234: one overlay adds the shifted copy. -/
theorem rd_overlay (orig fcb : SubframeVec) (i : Nat) {x : Nat} (hx : x < 60) :
    rd (overlay orig fcb i) x = wrap16 (rd fcb x + shifted orig x i) := by
  rw [overlay, rd_build _ hx, toInt_ofInt_16, shifted]
  split
  · rfl
  · rw [add_zero]

/-- A wrap inside a wrapped sum changes nothing. -/
theorem wrap16_wrap16_add (a b : Int) : wrap16 (wrap16 a + b) = wrap16 (a + b) :=
  wrap16_congr (by unfold wrap16; omega)

/-- R234: the Dirac train adds the copies shifted by the multiples of any lag. -/
theorem rd_dirac (fcb : SubframeVec) (lag : Nat) {x : Nat} (hx : x < 60) :
    rd (dirac fcb lag) x = wrap16 (rd fcb x + ∑ m ∈ Finset.range 59, shifted fcb x ((m + 1) * lag)) := by
  refine loop_induction (fun n f => rd f x = wrap16 (rd fcb x + ∑ m ∈ Finset.range n, shifted fcb x ((m + 1) * lag))) 59 fcb _
    ?_ fun n f _ ih => ?_
  · obtain ⟨hlo, hhi⟩ := rd_range_16 fcb x
    rw [Finset.sum_range_zero, add_zero, wrap16_of_fits hlo hhi]
  · rw [Finset.sum_range_succ, ← add_assoc]
    split
    next => rw [rd_overlay _ _ _ hx, ih, wrap16_wrap16_add]
    next hpast => rw [ih, shifted, if_neg (Nat.not_le.mpr (hx.trans_le (Nat.not_lt.mp hpast))), add_zero]

/-- Settles O35: from the fourth copy on the shift is past the vector. -/
theorem diracAddsShiftedCopies : Obligations.DiracAddsShiftedCopies := by
  intro fcb lag x hlo _ hx
  have hpast : ∀ m ≥ 3, shifted fcb x ((m + 1) * lag) = 0 := fun m hm => by
    have : 4 * 18 ≤ (m + 1) * lag := Nat.mul_le_mul (by omega) hlo
    exact if_neg (by omega)
  rw [rd_dirac fcb lag hx, Finset.eventually_constant_sum hpast (by decide : 3 ≤ 59)]
  simp only [Finset.sum_range_succ, Finset.sum_range_zero, shifted, zero_add, one_mul, Nat.reduceAdd, add_assoc]

/-! ### The regular pulses at 5300 bit/s -/

/-- R235: the pulses differ modulo 8. -/
theorem pulseOff53_mod (sf : Subframe) {k : Nat} (hk : k < 4) : pulseOff53 sf k % 8 = sf.gridIndex.toNat + 2 * k := by
  have hgrid := sf.gridIndex.isLt
  unfold pulseOff53
  omega

/-- R235: different pulses have different offsets. -/
theorem pulseOff53_ne (sf : Subframe) {k l : Nat} (hk : k < 4) (hl : l < 4) (hne : k ≠ l) : pulseOff53 sf k ≠ pulseOff53 sf l := by
  have hmod := pulseOff53_mod sf hk
  have hmod' := pulseOff53_mod sf hl
  omega

/-- The first `n` regular pulses are placed, and nothing else (R235, R236). -/
structure RegularUpTo (sf : Subframe) (g : Int) (n : Nat) (fcb : SubframeVec) : Prop where
  pulse : ∀ k, k < n → pulseOff53 sf k < 60 → rd fcb (pulseOff53 sf k) = wrap16 (sign53 (sf.pulseSign.getLsbD k) g)
  rest : ∀ x, (∀ k, k < n → x ≠ pulseOff53 sf k) → rd fcb x = 0

/-- R235: placing a pulse inside the vector. -/
theorem RegularUpTo.place {sf : Subframe} {g : Int} {n : Nat} {fcb : SubframeVec} (hn : n < 4) (h : RegularUpTo sf g n fcb)
    (hoff : pulseOff53 sf n < 60) :
    RegularUpTo sf g (n + 1) (wr fcb (pulseOff53 sf n) (sign53 (sf.pulseSign.getLsbD n) g)) where
  pulse k hk hoffk := by
    rcases Nat.lt_succ_iff_lt_or_eq.mp hk with hlt | rfl
    · rw [rd_wr_other _ _ (pulseOff53_ne sf (by omega) hn hlt.ne), h.pulse k hlt hoffk]
    · rw [rd_wr_same _ _ hoff, toInt_ofInt_16]
  rest x hx := by
    rw [rd_wr_other _ _ (hx n (Nat.lt_succ_self n))]
    exact h.rest x fun k hk => hx k (Nat.lt_succ_of_lt hk)

/-- R235: a pulse past the vector is discarded. -/
theorem RegularUpTo.discard {sf : Subframe} {g : Int} {n : Nat} {fcb : SubframeVec} (h : RegularUpTo sf g n fcb)
    (hoff : ¬pulseOff53 sf n < 60) : RegularUpTo sf g (n + 1) fcb where
  pulse k hk hoffk := by
    rcases Nat.lt_succ_iff_lt_or_eq.mp hk with hlt | rfl
    · exact h.pulse k hlt hoffk
    · exact absurd hoffk hoff
  rest x hx := h.rest x fun k hk => hx k (Nat.lt_succ_of_lt hk)

theorem regularPulses_upTo (sf : Subframe) (g : Int) : RegularUpTo sf g 4 (regularPulses sf g) := by
  refine loop_induction (RegularUpTo sf g) 4 _ _ ⟨nofun, fun x _ => rd_replicate_zero x⟩ fun n fcb hn h => ?_
  split
  next hoff => exact h.place hn hoff
  next hoff => exact h.discard hoff

/-- Settles O36. -/
theorem regularPulsesAt5300 : Obligations.RegularPulsesAt5300 := fun sf g => by
  obtain ⟨hpulse, hrest⟩ := regularPulses_upTo sf g.toInt
  exact ⟨hpulse, hrest⟩

/-! ### The harmonic enhancement -/

/-- The first `n` samples from the lag on are enhanced from the vector as it stands, and no others are changed (R237). -/
structure EnhancedUpTo (fcb : SubframeVec) (lag : Nat) (beta : Int) (n : Nat) (f : SubframeVec) : Prop where
  kept : ∀ x, x < lag ∨ lag + n ≤ x → rd f x = rd fcb x
  enhanced : ∀ k, k < n → rd f (lag + k) = wrap16 (rd fcb (lag + k) + beta * rd f k / 32768)

/-- R237: an iteration reads below the sample it writes, so the samples enhanced before keep their equation. -/
theorem EnhancedUpTo.step {fcb f : SubframeVec} {lag n : Nat} {beta : Int} (hlag : 1 ≤ lag) (hn : n < 60 - lag)
    (h : EnhancedUpTo fcb lag beta n f) :
    EnhancedUpTo fcb lag beta (n + 1) (wr f (lag + n) (rd f (lag + n) + asr (beta * rd f n) 15)) where
  kept x hx := by
    rw [rd_wr_other _ _ (by omega)]
    exact h.kept x (by omega)
  enhanced k hk := by
    rw [rd_wr_other _ _ (by omega : k ≠ lag + n)]
    rcases Nat.lt_succ_iff_lt_or_eq.mp hk with hlt | rfl
    · rw [rd_wr_other _ _ (by omega), h.enhanced k hlt]
    · rw [rd_wr_same _ _ (by omega), toInt_ofInt_16, h.kept (lag + k) (.inr le_rfl)]
      rfl

theorem enhance_upTo (fcb : SubframeVec) {lag : Nat} (beta : Int) (hlag : 1 ≤ lag) :
    EnhancedUpTo fcb lag beta (60 - lag) (enhance fcb lag beta) :=
  loop_induction (EnhancedUpTo fcb lag beta) (60 - lag) fcb _ ⟨fun _ _ => rfl, nofun⟩ fun _ _ hn h => h.step hlag hn

/-- Settles O37: the sample `x` is written by the iteration `x − lag`. -/
theorem harmonicEnhancementIsInPlace : Obligations.HarmonicEnhancementIsInPlace := by
  intro fcb lag beta hlag
  obtain ⟨hkept, henhanced⟩ := enhance_upTo fcb beta hlag
  refine ⟨fun x hx => hkept x (.inl hx), fun x hlo hhi => ?_⟩
  obtain ⟨k, rfl⟩ := Nat.exists_eq_add_of_le hlo
  rw [Nat.add_sub_cancel_left]
  exact henhanced k (by omega)

end Sys2Proof.Proofs
end

section
/-! The correlation search and the residuals of an erased frame (44_concealment.md R270, R277, R278). The pair the search carries is at
every iteration the first peak among the lags looked at so far; each residual is read off the store that wrote its sample. -/

namespace Sys2Proof.Proofs
open Sys2Proof.Machine

/-! ### The correlation search -/

/-- `r` is the first peak of `f` on `[lo, hi)`: its place and its value, or (0, 0) where `f` is nowhere positive (R270). -/
def FirstPeak (f : Int → Int) (lo hi : Int) (r : Int × Int) : Prop :=
  (r = (0, 0) ∧ ∀ i, lo ≤ i → i < hi → f i ≤ 0)
    ∨ (0 < r.2 ∧ lo ≤ r.1 ∧ r.1 < hi ∧ r.2 = f r.1 ∧ (∀ i, lo ≤ i → i < hi → f i ≤ r.2)
      ∧ ∀ i, lo ≤ i → i < r.1 → f i < r.2)

theorem firstPeak_empty (f : Int → Int) {lo hi : Int} (h : hi ≤ lo) : FirstPeak f lo hi (0, 0) :=
  .inl ⟨rfl, fun _ hlo hhi => by omega⟩

/-- The value of the first peak is not negative and bounds every value, also where no value is positive. -/
theorem FirstPeak.bound {f : Int → Int} {lo hi : Int} {r : Int × Int} (h : FirstPeak f lo hi r) :
    0 ≤ r.2 ∧ ∀ i, lo ≤ i → i < hi → f i ≤ r.2 := by
  rcases h with ⟨rfl, hle⟩ | ⟨hpos, _, _, _, hle, _⟩
  · exact ⟨le_rfl, hle⟩
  · exact ⟨hpos.le, hle⟩

/-- A value above the bound is the new first peak. -/
theorem FirstPeak.replace {f : Int → Int} {lo hi : Int} {r : Int × Int} (h : FirstPeak f lo hi r) (hlo : lo ≤ hi)
    (hgt : r.2 < f hi) : FirstPeak f lo (hi + 1) (hi, f hi) := by
  obtain ⟨hnonneg, hle⟩ := h.bound
  refine .inr ⟨by omega, hlo, Int.lt_succ hi, rfl, fun i hi1 hi2 => ?_, fun i hi1 hi2 => (hle i hi1 hi2).trans_lt hgt⟩
  rcases Int.lt_add_one_iff.mp hi2 |>.lt_or_eq with hlt | rfl
  · exact (hle i hi1 hlt).trans hgt.le
  · exact le_rfl

/-- A value that is not above the bound leaves the peak, as the comparison is strict. -/
theorem FirstPeak.keep {f : Int → Int} {lo hi : Int} {r : Int × Int} (h : FirstPeak f lo hi r) (hge : f hi ≤ r.2) :
    FirstPeak f lo (hi + 1) r := by
  have hle : ∀ i, lo ≤ i → i < hi + 1 → f i ≤ r.2 := fun i hi1 hi2 => by
    rcases Int.lt_add_one_iff.mp hi2 |>.lt_or_eq with hlt | rfl
    · exact h.bound.2 i hi1 hlt
    · exact hge
  rcases h with ⟨rfl, _⟩ | ⟨hpos, hlo, hhi, hval, _, hfirst⟩
  · exact .inl ⟨rfl, hle⟩
  · exact .inr ⟨hpos, hlo, by omega, hval, hle, hfirst⟩

/-- R270: the search ends with the first peak of the lags of its range. -/
theorem autocorrMax_firstPeak (y : ExcBuf) (b lag n : Nat) (dir : SearchDir) :
    FirstPeak (fun i => correlation y b (dirMul dir i) n) (searchCentre lag - 3)
      (searchCentre lag - 3 + (searchHi b lag n dir - (searchCentre lag - 3) + 1).toNat) (autocorrMax y b lag n dir) := by
  refine loop_induction (fun k r => FirstPeak (fun i => correlation y b (dirMul dir i) n) (searchCentre lag - 3)
    (searchCentre lag - 3 + (k : Nat)) r) _ _ _ (firstPeak_empty _ (by omega)) fun k best _ ih => ?_
  rw [Nat.cast_succ, ← add_assoc]
  dsimp only
  split
  next hgt => exact ih.replace (by omega) hgt
  next hle => exact ih.keep (not_lt.mp hle)

/-- Settles O38: the lags looked at are those of the range. -/
theorem autocorrelationPeak : Obligations.AutocorrelationPeak := by
  intro y b lag n dir
  dsimp only
  rcases autocorrMax_firstPeak y b lag n dir with ⟨hr, hle⟩ | ⟨hpos, hlo, hhi, hval, hle, hfirst⟩
  · exact .inl ⟨hr, fun i hi1 hi2 => hle i hi1 (by omega)⟩
  · exact .inr ⟨hpos, hlo, by omega, hval, fun i hi1 hi2 => hle i hi1 (by omega), hfirst⟩

/-! ### The voiced residual -/

/-- R277: three quarters of a sample fit its store. -/
theorem rd_voicedResidual (hist : Vector I16 146) (lag : Nat) {i : Nat} (hi : i < 240) :
    rd (voicedResidual hist lag) i = rd hist (voicedIndex lag i) * 3 / 4 := by
  obtain ⟨hlo, hhi⟩ := rd_range_16 hist (voicedIndex lag i)
  rw [voicedResidual, rd_build _ hi, toInt_ofInt_16, wrap16_of_fits] <;> norm_num [asr] <;> omega

theorem voicedIndex_of_lt {lag i : Nat} (hi : i < lag) : voicedIndex lag i = 146 + i - lag := by
  rw [voicedIndex, Nat.mod_eq_of_lt hi]

theorem voicedIndex_sub_lag {lag i : Nat} (hi : lag ≤ i) : voicedIndex lag (i - lag) = voicedIndex lag i := by
  rw [voicedIndex, voicedIndex, ← Nat.mod_eq_sub_mod hi]

/-- Settles O39. -/
theorem voicedResidualIsPeriodic : Obligations.VoicedResidualIsPeriodic := by
  intro hist lag _ hlag
  refine ⟨fun i hi => ?_, fun i hlo hhi => ?_⟩
  · rw [rd_voicedResidual hist lag (by omega), voicedIndex_of_lt hi, Nat.sub_add_comm hlag]
  · rw [rd_voicedResidual hist lag hhi, rd_voicedResidual hist lag (by omega), voicedIndex_sub_lag hlo]

/-! ### The unvoiced residual -/

/-- R278: a 16-bit fraction of the gain is at most the gain. -/
theorem asr_gain_mul_seed_range {g : Int} (hg : 0 ≤ g) (seed : I16) :
    -g ≤ asr (g * seed.toInt) 15 ∧ asr (g * seed.toInt) 15 ≤ g := by
  have hlo : -32768 ≤ seed.toInt := BitVec.le_toInt seed
  have hhi : seed.toInt < 32768 := BitVec.toInt_lt
  have hmin : g * -32768 ≤ g * seed.toInt := mul_le_mul_of_nonneg_left hlo hg
  have hmax : g * seed.toInt ≤ g * 32768 := mul_le_mul_of_nonneg_left hhi.le hg
  norm_num [asr]
  omega

/-- R278: every sample of the noise is in range, whichever draws are stored. -/
theorem unvoicedResidual_range {g : Int} (hlo : 0 ≤ g) (hhi : g ≤ 32767) (seed : I16) (i : Nat) :
    -g ≤ rd (unvoicedResidual g seed).2 i ∧ rd (unvoicedResidual g seed).2 i ≤ g := by
  refine loop_invariant (fun p : I16 × Vector I16 240 => -g ≤ rd p.2 i ∧ rd p.2 i ≤ g) 240 _ _ ?_ fun k p hk ih => ?_
  · rw [rd_replicate_zero]
    omega
  · by_cases hik : i = k
    · obtain ⟨hmin, hmax⟩ := asr_gain_mul_seed_range hlo (noiseSeed p.1)
      rw [hik, rd_wr_same _ _ hk, toInt_ofInt_16, wrap16_of_fits (by omega) (by omega)]
      exact ⟨hmin, hmax⟩
    · rw [rd_wr_other _ _ hik]
      exact ih

/-- Settles O40. -/
theorem unvoicedResidualIsBounded : Obligations.UnvoicedResidualIsBounded := fun _ seed i hlo hhi _ =>
  unvoicedResidual_range hlo hhi seed i

end Sys2Proof.Proofs
end

section
/-! Zeros through the tail of a decode (46_synthesis_cng.md R330–R333, 45_postfilter.md R310–R319). Each stage maps zeros to zeros: the
synthesis over zero memory, the plain output, and the formant post-filter, whose IIR samples stay at the rounding constant of R312, less
than one unit of the output. -/

namespace Sys2Proof.Proofs
open Sys2Proof.Machine

/-! ### Arrays of zeros -/

theorem rd_of_allZero {w n : Nat} {v : Vector (BitVec w) n} (hv : AllZero v) (i : Nat) : rd v i = 0 := by
  rw [hv, rd_replicate_zero]

theorem allZero_of_rd {w n : Nat} {v : Vector (BitVec w) n} (h : ∀ i, i < n → rd v i = 0) : AllZero v :=
  ext_rd fun i hi => by rw [h i hi, rd_replicate_zero]

theorem wr_zero {w n : Nat} {v : Vector (BitVec w) n} (hv : AllZero v) (i : Nat) {x : Int} (hx : x = 0) : AllZero (wr v i x) :=
  allZero_of_rd fun k hk => by
    by_cases hki : k = i
    · subst hki hx
      simp [rd_wr_same _ _ hk]
    · rw [rd_wr_other _ _ hki, rd_of_allZero hv]

theorem build_zero {w n : Nat} {f : Nat → Int} (hf : ∀ i, i < n → f i = 0) : AllZero (build f : Vector (BitVec w) n) :=
  allZero_of_rd fun i hi => by simp [rd_build f hi, hf i hi]

theorem slice_zero {w m : Nat} {v : Vector (BitVec w) m} (hv : AllZero v) (off n : Nat) : AllZero (slice v off n) :=
  allZero_of_rd fun i hi => by rw [rd_slice v off hi, rd_of_allZero hv]

/-- A window of an array that holds one value there. -/
theorem slice_eq_replicate {w m : Nat} {v : Vector (BitVec w) m} {off n : Nat} {x : BitVec w}
    (h : ∀ i, i < n → rd v (off + i) = x.toInt) : slice v off n = Vector.replicate n x :=
  ext_rd fun i hi => by rw [rd_slice v off hi, h i hi, rd_of_lt _ hi, Vector.getElem_replicate]

theorem sum_zero {n : Nat} {f : Nat → Int} (hf : ∀ i, i < n → f i = 0) : sum n f = 0 :=
  loop_invariant (fun x => x = 0) n 0 _ rfl fun i _ hi hx => by rw [hx, hf i hi, zero_add]

/-! ### Synthesis -/

/-- R330: one half, rounded down, is no sample. -/
theorem synthSample_zero (a : Vector I16 10) {buf : AudioBuf} (hbuf : AllZero buf) (x : Nat) : synthSample a buf x = 0 := by
  have hsum : sum 10 (fun i => rd a i * rd buf (x - (i + 1))) = 0 := sum_zero fun i _ => by rw [rd_of_allZero hbuf, mul_zero]
  rw [synthSample, hsum, rd_of_allZero hbuf]
  decide

theorem synthSubframe_zero (a : Vector I16 10) {buf : AudioBuf} (hbuf : AllZero buf) (x : Nat) : AllZero (synthSubframe a buf x) :=
  loop_invariant (fun b : AudioBuf => AllZero b) 60 buf _ hbuf fun n _ _ hb => wr_zero hb (x + n) (synthSample_zero a hb _)

/-- R331: zeros over zero memory give zeros. -/
theorem synthesize_zero {mem : Vector I16 10} (hmem : AllZero mem) (lpc : LpcSets) {input : Vector I16 240}
    (hinput : AllZero input) : AllZero (synthesize mem lpc input) := by
  have hstart : AllZero (synthInput mem input) := build_zero fun x _ => by rw [rd_of_allZero hmem, rd_of_allZero hinput, ite_self]
  exact synthSubframe_zero _ (synthSubframe_zero _ (synthSubframe_zero _ (synthSubframe_zero _ hstart _) _) _) _

/-! ### The formant post-filter -/

/-- Every sample of the array is less than one unit of the output (R312, R316). -/
def BelowUnit {n : Nat} (f : Vector I32 n) : Prop := ∀ x, asr (rd f x) 16 = 0

/-- The first `n` samples of the frame are filtered, each to the rounding constant of R312. -/
structure RoundedUpTo (n : Nat) (f : FormantBuf) : Prop where
  below : BelowUnit f
  rounding : ∀ x, 10 ≤ x → x < 10 + n → rd f x = 32768

/-- R312: over samples below one unit, a zero input gives the rounding constant. -/
theorem iirSample_zero (fir iir : Vector I16 10) {a : AudioBuf} (ha : AllZero a) {f : FormantBuf} (hf : BelowUnit f) (x : Nat) :
    iirSample fir iir a f x = 32768 := by
  have hsum : sum 10 (fun n => rd iir n * asr (rd f (x - (n + 1))) 16 - rd fir n * rd a (x - (n + 1))) = 0 :=
    
    sum_zero fun n _ => by rw [hf, rd_of_allZero ha, mul_zero, mul_zero, sub_zero]
  rw [iirSample, hsum, rd_of_allZero ha]
  decide

theorem RoundedUpTo.step {n : Nat} {f : FormantBuf} (h : RoundedUpTo n f) (hn : n < 240) :
    RoundedUpTo (n + 1) (wr f (10 + n) 32768) where
  below x := by
    by_cases hx : x = 10 + n
    · rw [hx, rd_wr_same _ _ (by omega)]
      decide
    · rw [rd_wr_other _ _ hx]
      exact h.below x
  rounding x hlo hhi := by
    by_cases hx : x = 10 + n
    · rw [hx, rd_wr_same _ _ (by omega)]
      decide
    · rw [rd_wr_other _ _ hx]
      exact h.rounding x hlo (by omega)

theorem iirSubframe_rounded (p : Params) (lpc : LpcSets) {a : AudioBuf} (ha : AllZero a) {f : FormantBuf} {j : Nat} (hj : j < 4)
    (hf : RoundedUpTo (60 * j) f) : RoundedUpTo (60 * (j + 1)) (iirSubframe p lpc a f j) := by
  unfold iirSubframe
  dsimp only
  refine loop_induction (fun m f => RoundedUpTo (60 * j + m) f) 60 f _ hf fun m g hm hg => ?_
  rw [iirSample_zero _ _ ha hg.below, add_assoc 10]
  exact hg.step (by omega)

/-- R312: a zero input over a memory below one unit leaves the rounding constant in every sample. -/
theorem iirFilter_rounded (p : Params) (lpc : LpcSets) {iirMem : Vector I32 10} (hmem : BelowUnit iirMem) {a : AudioBuf}
    (ha : AllZero a) : RoundedUpTo 240 (iirFilter p lpc iirMem a) := by
  refine loop_induction (fun j f => RoundedUpTo (60 * j) f) 4 _ _ ⟨fun x => ?_, fun x _ _ => by omega⟩
    fun j f hj hf => iirSubframe_rounded p lpc ha hj hf
  by_cases hx : x < 250
  · rw [rd_build _ hx, toInt_ofInt_32]
    split
    · obtain ⟨hlo, hhi⟩ := rd_range_32 iirMem x
      rw [wrap32_of_fits hlo hhi]
      exact hmem x
    · decide
  · rw [rd_of_ge _ (by omega)]
    decide

/-- R316: the compensation of the rounding constant is no sample. -/
theorem compSample_zero {f : FormantBuf} (hf : RoundedUpTo 240 f) (coef : Int) {x : Nat} (hlo : 10 ≤ x) (hhi : x < 250) :
    compSample f coef x = 0 := by
  rw [compSample, hf.below, hf.rounding x hlo hhi, zero_mul]
  decide

/-- R319: zeros scale to zeros, whatever the gain. -/
theorem scaleSubframe_zero {d : SubframeVec} (hd : AllZero d) (gain : Int) (pf : I32) {out : Vector I16 240} (hout : AllZero out)
    (j : Nat) : AllZero (scaleSubframe d gain pf out j).2 :=
  loop_invariant (fun q : I32 × Vector I16 240 => AllZero q.2) 60 (pf, out) _ hout fun i q _ hq => wr_zero hq _ <| by
    rw [rd_of_allZero hd, scaleSample, zero_mul]
    decide

theorem formantSubframe_zero (p : Params) (a : AudioBuf) {f : FormantBuf} (hf : RoundedUpTo 240 f) {q : FormantState}
    (hq : AllZero q.out) {j : Nat} (hj : j < 4) : AllZero (formantSubframe p a f q j).out :=
  scaleSubframe_zero (build_zero fun _ _ => compSample_zero hf _ (by omega) (by omega)) _ _ hq j

/-- R310–R319: zeros over zero FIR memory and an IIR memory below one unit. -/
theorem formantPostfilter_zero (p : Params) {c : Persistent} (hfir : AllZero c.firMem) (hiir : BelowUnit c.iirMem) (lpc : LpcSets)
    {audio : AudioBuf} (haudio : AllZero audio) :
    AllZero (formantPostfilter p c lpc audio).2 ∧ AllZero (formantPostfilter p c lpc audio).1.firMem
      ∧ (formantPostfilter p c lpc audio).1.iirMem = Vector.replicate 10 32768 := by
  have ha : AllZero (formantInput c.firMem audio) := build_zero fun x _ => by
    rw [rd_of_allZero hfir, rd_of_allZero haudio, ite_self]
  have hf := iirFilter_rounded p lpc hiir ha
  refine ⟨?_, slice_zero ha _ _, slice_eq_replicate fun i hi => hf.rounding _ (by omega) (by omega)⟩
  exact loop_invariant (fun q : FormantState => AllZero q.out) 4 _ _ rfl fun _ _ hj hq => formantSubframe_zero p _ hf hq hj

/-! ### The common tail -/

theorem plainOutput_zero {a : AudioBuf} (ha : AllZero a) : AllZero (plainOutput a) := by
  unfold plainOutput
  refine build_zero fun i _ => ?_
  rw [rd_of_allZero ha]
  decide

/-- R333: zeros give a zero output; the IIR memory moves with the post-filter only. -/
theorem outputStage_zero (p : Params) {c : Persistent} (hfir : AllZero c.firMem) (hiir : BelowUnit c.iirMem) (lpc : LpcSets)
    {a : AudioBuf} (ha : AllZero a) :
    AllZero (outputStage p c lpc a).2 ∧ AllZero (outputStage p c lpc a).1.firMem
      ∧ (c.postfilter = false → (outputStage p c lpc a).1.iirMem = c.iirMem)
      ∧ (c.postfilter = true → (outputStage p c lpc a).1.iirMem = Vector.replicate 10 32768) := by
  unfold outputStage
  split
  next hpf =>
    obtain ⟨hout, hmem, hround⟩ := formantPostfilter_zero p hfir hiir lpc ha
    exact ⟨hout, hmem, fun hoff => absurd hpf (by rw [hoff]; decide), fun _ => hround⟩
  next hpf => exact ⟨plainOutput_zero ha, hfir, fun _ => rfl, fun hon => absurd hon hpf⟩

/-- R379–R381: the tail of a decode whose input and memories are zero. -/
theorem finish_zero (p : Params) {j : SynthesisJob} (hinput : AllZero j.input) (hsynth : AllZero j.core.synthMem)
    (hfir : AllZero j.core.firMem) (hiir : AllZero j.core.iirMem) :
    AllZero (finish p j).2 ∧ AllZero (finish p j).1.synthMem ∧ AllZero (finish p j).1.firMem
      ∧ (j.core.postfilter = false → AllZero (finish p j).1.iirMem)
      ∧ (j.core.postfilter = true → (finish p j).1.iirMem = Vector.replicate 10 32768) := by
  have ha := synthesize_zero hsynth j.lpc hinput
  have hbelow : BelowUnit j.core.iirMem := fun x => by rw [rd_of_allZero hiir]; decide
  obtain ⟨hout, hmem, hoff, hon⟩ :=
    outputStage_zero p (c := { j.core with synthMem := slice (synthesize j.core.synthMem j.lpc j.input) 240 10 }) hfir hbelow j.lpc ha
  refine ⟨hout, ?_, hmem, fun hpf => (hoff hpf).trans hiir, hon⟩
  unfold finish outputStage
  dsimp only
  split <;> exact slice_zero ha 240 10

end Sys2Proof.Proofs
end

section
/-! The mute of the third bad frame (44_concealment.md R276). UNPACK leaves what a muted frame reads, so the frame reaches the mute whatever
its operands are, and the tail of the decode keeps its zeros. -/

namespace Sys2Proof.Proofs
open Sys2Proof.Machine

/-! ### What UNPACK leaves -/

/-- `d` is `c` but for the fields UNPACK writes (R170–R186). -/
def UnpackWrote (c d : Persistent) : Prop :=
  ∃ ty rate lags sub idx, d = { c with curFrameType := ty, curRate := rate, pitchLag := lags, subframe := sub, lspIndex := idx }

theorem unpackWrote_recordClosed (c : Persistent) : RecordClosed (UnpackWrote c) := by
  rintro d i g _ ⟨ty, rate, lags, sub, idx, rfl⟩
  unfold setSubframe
  split <;> exact ⟨_, _, _, _, _, rfl⟩

theorem unpackPitch_wrote {c d : Persistent} (hd : UnpackWrote c d) (h : ActiveHeader) :
    Ends (UnpackWrote c) (UnpackWrote c) (unpackPitch d h) := by
  have record {d : Persistent} (hd : UnpackWrote c d) (i : Nat) (lag : BitVec 2) :
      UnpackWrote c (setSubframe d i fun sf => { sf with adCbLag := lag }) :=
    unpackWrote_recordClosed c d i _ (fun _ hsf => hsf) hd
  have lag {d : Persistent} (hd : UnpackWrote c d) (lags : Vector (BitVec 8) 2) : UnpackWrote c { d with pitchLag := lags } := by
    obtain ⟨_, _, _, _, _, rfl⟩ := hd
    exact ⟨_, _, _, _, _, rfl⟩
  unfold unpackPitch
  dsimp only
  split
  · exact ends_error hd
  · split
    · exact ends_error (record (lag hd _) 1 _)
    · exact ends_ok (record (record (record (lag (record (lag hd _) 1 _) _) 3 _) 0 _) 2 _)

/-- R170–R186: what UNPACK and the remap write of a state. -/
theorem remapped_wrote {size : Nat} {unpack : Persistent → Unpacked} (hf : IsFrame size unpack) (c : Persistent) :
    UnpackWrote c (remapped (unpack c)) := by
  refine remapped_keeps (unpack_ends hf (unpackWrote_recordClosed c) (fun _ h => h)
    (fun rate h => unpackPitch_wrote ⟨_, _, _, _, _, rfl⟩ h) (fun idx => ⟨_, _, _, _, _, rfl⟩) ⟨_, _, _, _, _, rfl⟩) ?_
  rintro _ ty ⟨_, _, _, _, _, rfl⟩
  exact ⟨_, _, _, _, _, rfl⟩

/-- R186: a bad frame after an ACTIVE frame is an ACTIVE one. -/
theorem remapped_active {u : Unpacked} (hbad : badFrame u = true) (hpast : (remapped u).pastFrameType = .active) :
    (remapped u).curFrameType = .active := by
  rcases remapped_cases u with ⟨c, _, hgood, _⟩ | ⟨c, _, _, _, hr⟩ | ⟨c, _, _, hother, hr⟩
  · rw [hgood] at hbad
    cases hbad
  · rw [hr]
  · rw [hr] at hpast
    exact absurd hpast hother

/-! ### A muted frame -/

/-- R200: the indices of a bad frame are forced to 0. -/
theorem activeLsp_bad (p : Params) (c : Persistent) :
    activeLsp p c true = lspDequant p.rom c.prevLsp (Vector.replicate 3 0) true := rfl

/-- R376, R276: an erased frame with the erasure count at 3 is muted. -/
theorem activeExcitation_muted (p : Params) {c : Persistent} (herased : c.erasedFrames = 3) :
    activeExcitation p c = .ok (mute (decayGain c), Vector.replicate 240 0) := by
  unfold activeExcitation erasedActive
  rw [if_neg (by omega)]
  exact if_pos (by rw [decayGain_erasedFrames, herased])

/-- What a muted frame that found the state `c` hands to the tail of the decode (R276, R373). -/
structure MutedJob (c : Persistent) (j : SynthesisJob) : Prop where
  erased : j.core.erasedFrames = 3
  input : AllZero j.input
  excitation : AllZero j.core.prevExcitation
  synthMem : AllZero j.core.synthMem
  firMem : AllZero j.core.firMem
  iirMem : AllZero j.core.iirMem
  seed : j.core.randomSeed = c.randomSeed
  postfilter : j.core.postfilter = c.postfilter

/-- R373, R376, R276: with two erasures counted, a bad ACTIVE frame whose LSP values have cosine entries is muted. -/
theorem decodeActive_mutedJob {p : Params} {c : Persistent} (herased : 2 ≤ c.erasedFrames)
    (hlsp : InterpInTable p.rom.cosTab (lspDequant p.rom c.prevLsp (Vector.replicate 3 0) true) c.prevLsp) :
    ∃ j, decodeActive p true c = .ok j ∧ MutedJob c j := by
  have hcount : (countErasure true c).erasedFrames = 3 := by
    rw [countErasure_erasedFrames, if_pos rfl]
    omega
  rw [← countErasure_prevLsp true c, ← activeLsp_bad] at hlsp
  obtain ⟨lpc, hlpc⟩ := lspInterp_completes hlsp
  have hexc := activeExcitation_muted p
    (c := { countErasure true c with prevLsp := activeLsp p (countErasure true c) true }) hcount
  exact ⟨_, bind_eq_ok.mpr ⟨lpc, hlpc, bind_eq_ok.mpr ⟨_, hexc, rfl⟩⟩,
    { erased := by simpa using hcount
      input := rfl
      excitation := by simp
      synthMem := by simp
      firMem := by simp
      iirMem := by simp
      seed := by simp
      postfilter := by simp }⟩

/-- Settles O17: UNPACK fails and leaves the erasure count and what a muted frame reads; the count reaches 3, so the frame is muted, and
the tail of the decode keeps the zeros. -/
theorem thirdBadFrameMutes : Obligations.ThirdBadFrameMutes := by
  rintro i s ⟨hill, hlen⟩ ⟨hpast, _, _, hlsp⟩ herased
  obtain ⟨unpack, hf, hexec, hfails⟩ := exec_of_forbidden hill
  have hbad := hfails s.core
  obtain ⟨_, _, _, _, _, hwrote⟩ := remapped_wrote hf s.core
  have hcur := remapped_active hbad (by rw [hwrote]; exact hpast)
  obtain ⟨j, hj, hmuted⟩ := decodeActive_mutedJob (p := s.params) (c := remapped (unpack s.core)) (by rw [hwrote]; exact herased)
    (by rw [hwrote]; exact hlsp)
  have hseed : j.core.randomSeed = s.core.randomSeed := by rw [hmuted.seed, hwrote]
  have hpf : j.core.postfilter = s.core.postfilter := by rw [hmuted.postfilter, hwrote]
  have hrun := runFrame_of_decodeByType hlen (by rw [hbad, decodeByType, hcur]; exact hj)
  obtain ⟨hout, hsynth, hfir, hoff, hon⟩ := finish_zero s.params hmuted.input hmuted.synthMem hmuted.firMem hmuted.iirMem
  obtain ⟨_, _, _, _, _, hfin, _⟩ := finish_core s.params j
  rw [hpf] at hoff hon
  refine ⟨_, (hexec s).trans (toOutcome_eq_next.mpr hrun), ?_, hout, ?_, hsynth, hfir, hoff, hon, ?_⟩
  · rw [hfin]
    exact hmuted.erased
  · rw [hfin]
    exact hmuted.excitation
  · rw [hfin]
    exact hseed

end Sys2Proof.Proofs
end

section
/-! The post-filters (45_postfilter.md R290–R300, R318, R319). A pitch post-filter index is a searched lag taken in its direction, so
that the window it names is one the correlation search looked at; the formant gain is a square root, and each smoothing step goes from
the old gain toward it. -/

namespace Sys2Proof.Proofs
open Sys2Proof.Machine

/-! ### The top of the square root -/

/-- R146: whatever the radicand, bit 0 of the root is never set, nor any bit above 2^14. -/
theorem squareRoot_le (v : Int) : squareRoot v ≤ 0x7FFE := by
  obtain ⟨hbit, htop⟩ := loop_induction (fun k p => p.2 = 2 ^ (14 - k) ∧ p.1 + 2 * p.2 ≤ 32768) 14 (0, 0x4000)
    (fun p _ => squareRootStep v p) ⟨by norm_num, by omega⟩ fun k p hk ⟨hbit, htop⟩ => by
      have hhalf : (2 : Int) ^ (14 - k) = 2 * 2 ^ (14 - (k + 1)) := by
        rw [← pow_succ']
        congr 1
        omega
      have hpos : (0 : Int) < 2 ^ (14 - k) := by positivity
      unfold squareRootStep asr
      dsimp only
      refine ⟨by omega, ?_⟩
      split <;> omega
  unfold squareRoot
  omega

/-! ### The gains of the pitch post-filter -/

/-- R293, R300: the ranges of the two gains of a subframe. -/
structure PpfGainsInRange (k : PpfCoeff) : Prop where
  scGain : 0 ≤ k.scGain ∧ k.scGain ≤ 0x7FFF
  optGain : -32768 ≤ k.optGain ∧ k.optGain ≤ 32767

/-- R290, R293: the gains that leave a subframe as it is. -/
theorem neutral_gainsInRange (lag : Int) : PpfGainsInRange { index := lag, optGain := 0, scGain := 0x7FFF } where
  scGain := by norm_num
  optGain := by norm_num

/-- R293: the index is the lag on both branches. -/
@[simp] theorem ppfGains_index (p : Params) (w lag tgt ccr res : Int) : (ppfGains p w lag tgt ccr res).index = lag := by
  unfold ppfGains
  split <;> rfl

/-- R293: the scale gain is a square root or the top value, and the other gain is clipped or 0. -/
theorem ppfGains_gainsInRange (p : Params) (w lag tgt ccr res : Int) : PpfGainsInRange (ppfGains p w lag tgt ccr res) := by
  unfold ppfGains
  split
  · exact ⟨⟨(squareRoot_range _).1, (squareRoot_le _).trans (by decide)⟩, clip16_range _⟩
  · exact neutral_gainsInRange lag

/-! ### The index of the pitch post-filter -/

/-- R292: the selected coefficients are those of the forward lag or of the backward lag. -/
theorem ppfSelect_cases (p : Params) (w fwd bwd : Int) (e : PpfEnergies) :
    ppfSelect p w fwd bwd e = ppfGains p w fwd e.tgt e.fwdCcr e.fwdRes
      ∨ ppfSelect p w fwd bwd e = ppfGains p w (-bwd) e.tgt e.bwdCcr e.bwdRes := by
  unfold ppfSelect
  split_ifs
  exacts [.inl rfl, .inr rfl, .inl rfl, .inr rfl]

/-- R290, R292: a subframe is left as it is, or it is combined with the window at the lag found in one direction. -/
theorem ppfCoeff_cases (p : Params) (c : Persistent) (y : ExcBuf) (j : Nat) :
    ppfCoeff p c y j = { index := 0, optGain := 0, scGain := 0x7FFF }
      ∨ ∃ dir tgt ccr res, ppfCoeff p c y j
        = ppfGains p (ppfWeight p c.curRate) (dirMul dir (autocorrMax y (146 + 60 * j) (lagOf c j) 60 dir).1) tgt ccr res := by
  unfold ppfCoeff
  dsimp only
  split
  · exact .inl rfl
  · refine .inr ?_
    rcases ppfSelect_cases p _ _ _ _ with h | h
    · exact ⟨.forward, _, _, _, h⟩
    · exact ⟨.backward, _, _, _, h⟩

theorem ppfCoeff_gainsInRange (p : Params) (c : Persistent) (y : ExcBuf) (j : Nat) : PpfGainsInRange (ppfCoeff p c y j) := by
  rcases ppfCoeff_cases p c y j with h | ⟨dir, tgt, ccr, res, h⟩ <;> rw [h]
  · exact neutral_gainsInRange 0
  · exact ppfGains_gainsInRange ..

/-- The window of a subframe at `b`, moved by `i`, lies inside the excitation buffer, and `i` is no longer than the longest lag. -/
structure WindowInBuffer (b : Nat) (i : Int) : Prop where
  start : 0 ≤ (b : Int) + i
  stop : (b : Int) + i + 60 ≤ 386
  lag : -146 ≤ i ∧ i ≤ 146

theorem windowInBuffer_zero {b : Nat} (hstop : b + 60 ≤ 386) : WindowInBuffer b 0 := ⟨by omega, by omega, by omega⟩

/-- R270: the lag that the search answers, taken in its direction, keeps the window inside the buffer. -/
theorem autocorrMax_windowInBuffer (y : ExcBuf) {b lag : Nat} (dir : SearchDir) (hlag : 18 ≤ lag) (hstart : 146 ≤ b)
    (hstop : b + 60 ≤ 386) : WindowInBuffer b (dirMul dir (autocorrMax y b lag 60 dir).1) := by
  rcases autocorrMax_lag y b lag 60 dir with hzero | ⟨hlo, hhi⟩
  · have hnone : dirMul dir 0 = 0 := by cases dir <;> rfl
    rw [hzero, hnone]
    exact windowInBuffer_zero hstop
  · obtain ⟨hfirst, hlast⟩ := correlationWindow_inBuffer hlag hstart hstop hlo hhi
    obtain ⟨h15, h146, _⟩ := search_range hlag hlo hhi
    refine ⟨hfirst, hlast, ?_⟩
    cases dir <;> simp only [dirMul] <;> omega

theorem ppfCoeff_windowInBuffer (p : Params) {c : Persistent} (y : ExcBuf) {j : Nat} (hj : j < 4) (hlag : 18 ≤ lagOf c j) :
    WindowInBuffer (146 + 60 * j) (ppfCoeff p c y j).index := by
  rcases ppfCoeff_cases p c y j with h | ⟨dir, tgt, ccr, res, h⟩ <;> rw [h]
  · exact windowInBuffer_zero (by omega)
  · rw [ppfGains_index]
    exact autocorrMax_windowInBuffer y dir hlag (by omega) (by omega)

/-- Settles O41: the window of subframe 3 ends where the buffer ends, so it can only move back. -/
theorem pitchPostfilterStaysInBuffer : Obligations.PitchPostfilterStaysInBuffer := by
  intro p c y j hj hlo _
  dsimp only
  obtain ⟨hstart, hstop, hback, hfwd⟩ := ppfCoeff_windowInBuffer p y hj hlo
  obtain ⟨⟨hsc0, hsc1⟩, hopt0, hopt1⟩ := ppfCoeff_gainsInRange p c y j
  push_cast at hstart hstop
  exact ⟨hstart, hstop, hback, hfwd, hsc0, hsc1, hopt0, hopt1, fun hlast => by omega⟩

/-! ### The gain of the formant post-filter -/

/-- R318: a root, or the gain 2^12 of a subframe without energy. -/
theorem gainScale_le (d : SubframeVec) (energy : Int) : gainScale d energy ≤ 0x7FFE := by
  unfold gainScale
  dsimp only
  split
  · exact squareRoot_le _
  · decide

/-- R319: one smoothing step; the rounding term 8 is too small to pass either end. -/
theorem smoothGain_between (pf gain : Int) : min pf gain ≤ smoothGain pf gain ∧ smoothGain pf gain ≤ max pf gain := by
  unfold smoothGain asr
  rcases le_total pf gain with hbelow | habove
  · rw [min_eq_left hbelow, max_eq_right hbelow]
    omega
  · rw [min_eq_right habove, max_eq_left habove]
    omega

/-- R319: the steps of a subframe stay between the gain they start from and the one they go to; both fit 32 bits, so that every store
keeps its value. -/
theorem scaleSubframe_between (d : SubframeVec) {gain : Int} (hlo : 0 ≤ gain) (hhi : gain ≤ 32767) (pf : I32) (out : Vector I16 240)
    (j : Nat) : min pf.toInt gain ≤ (scaleSubframe d gain pf out j).1.toInt
      ∧ (scaleSubframe d gain pf out j).1.toInt ≤ max pf.toInt gain := by
  have hpf := toInt_range_32 pf
  unfold scaleSubframe
  refine loop_invariant (fun x : I32 × Vector I16 240 => min pf.toInt gain ≤ x.1.toInt ∧ x.1.toInt ≤ max pf.toInt gain) 60 _ _
    ⟨min_le_left .., le_max_left ..⟩ fun i x _ ⟨hxlo, hxhi⟩ => ?_
  obtain ⟨hstep0, hstep1⟩ := smoothGain_between x.1.toInt gain
  have hlower := (le_min hxlo (min_le_right ..)).trans hstep0
  have hupper := hstep1.trans (max_le hxhi (le_max_right ..))
  dsimp only
  rw [toInt_ofInt_32, wrap32_of_fits (by omega) (by omega)]
  exact ⟨hlower, hupper⟩

/-- Settles O42. -/
theorem formantGainMovesTowardTarget : Obligations.FormantGainMovesTowardTarget := fun d energy pf out j =>
  ⟨(gainScale_range d energy).1, gainScale_le d energy, fun _ hlo hhi => scaleSubframe_between d hlo hhi pf out j⟩

end Sys2Proof.Proofs
end

section
/-! The output stage and the comfort-noise generator (46_synthesis_cng.md R330–R361). The output stage reads the last ten samples of the
frame where the synthesis memory is taken, so both hold the same samples. The pool that the noise positions are drawn from keeps its live
entries distinct, because the entry drawn is replaced by the last live one. -/

namespace Sys2Proof.Proofs
open Sys2Proof.Machine

/-! ### The SID gain map -/

/-- R361: the first segment. -/
theorem sidGainToLspIndex_low {g : Int} (h : g < 16) : sidGainToLspIndex g = 64 * g := by
  rw [sidGainToLspIndex, if_pos h, shl]
  omega

/-- R361: the second segment. -/
theorem sidGainToLspIndex_middle {g : Int} (hlo : 16 ≤ g) (hhi : g < 32) : sidGainToLspIndex g = 128 * (g - 8) := by
  rw [sidGainToLspIndex, if_neg (by omega), if_pos hhi, shl]
  omega

/-- R361: the third segment. -/
theorem sidGainToLspIndex_high {g : Int} (h : 32 ≤ g) : sidGainToLspIndex g = 256 * (g - 20) := by
  rw [sidGainToLspIndex, if_neg (by omega), if_neg (by omega), shl]
  omega

/-- R361: a step up rises within each segment and from each segment's last value to the next one's first. -/
theorem sidGainToLspIndex_strictMono : StrictMono sidGainToLspIndex := by
  refine strictMono_int_of_lt_succ fun g => ?_
  rcases lt_or_ge g 16 with hlow | hlow
  · rw [sidGainToLspIndex_low hlow]
    rcases lt_or_ge (g + 1) 16 with hnext | hnext
    · rw [sidGainToLspIndex_low hnext]
      omega
    · rw [sidGainToLspIndex_middle hnext (by omega)]
      omega
  · rcases lt_or_ge g 32 with hmid | hmid
    · rw [sidGainToLspIndex_middle hlow hmid]
      rcases lt_or_ge (g + 1) 32 with hnext | hnext
      · rw [sidGainToLspIndex_middle (by omega) hnext]
        omega
      · rw [sidGainToLspIndex_high hnext]
        omega
    · rw [sidGainToLspIndex_high hmid, sidGainToLspIndex_high (by omega)]
      omega

/-- Settles O47. -/
theorem sidGainMapIsMonotone : Obligations.SidGainMapIsMonotone :=
  ⟨fun _ _ h => sidGainToLspIndex_low h, fun _ hlo hhi => sidGainToLspIndex_middle hlo hhi,
    fun _ h _ => sidGainToLspIndex_high h, fun _ _ _ h _ => sidGainToLspIndex_strictMono h⟩

/-! ### The noise positions -/

/-- R349: the pool after entry `r` of its first `n + 1` is drawn. -/
abbrev poolAfter (pool : List Nat) (n r : Nat) : List Nat := pool.set r (pool.getD n 0)

/-- R349: one draw, then the others from the pool it leaves. -/
theorem drawPositions_succ (left : Nat) (seed : BitVec 16) (pool : List Nat) (n off : Nat) :
    (drawPositions (left + 1) seed pool (n + 1) off).2
      = (2 * pool.getD (cngValue (cngSeed seed) (n + 1)) 0 + off)
        :: (drawPositions left (cngSeed seed) (poolAfter pool n (cngValue (cngSeed seed) (n + 1))) n off).2 := rfl

theorem drawPositions_length (left : Nat) (seed : BitVec 16) (pool : List Nat) (n off : Nat) :
    (drawPositions left seed pool n off).2.length = left := by
  induction left generalizing seed pool n with
  | zero => rfl
  | succ left ih => exact congrArg (· + 1) (ih _ _ _)

/-- R349: the first `n` entries of the pool, from which the next draw takes one, exist and are distinct. -/
structure LivePool (n : Nat) (pool : List Nat) : Prop where
  fits : n ≤ pool.length
  distinct : ∀ a b, a < n → b < n → pool.getD a 0 = pool.getD b 0 → a = b

/-- R349: a live entry after a draw is the entry that stood there, or the last one where entry `r` was drawn. -/
theorem LivePool.entry_poolAfter {n a : Nat} {pool : List Nat} (h : LivePool (n + 1) pool) (r : Nat) (ha : a < n) :
    ∃ b, (a ≠ r ∧ b = a ∨ a = r ∧ b = n) ∧ (poolAfter pool n r).getD a 0 = pool.getD b 0 := by
  have hfits := h.fits
  by_cases har : a = r
  · subst har
    exact ⟨n, .inr ⟨rfl, rfl⟩, by simp [List.getD_eq_getElem?_getD, show a < pool.length by omega]⟩
  · exact ⟨a, .inl ⟨har, rfl⟩, by simp [List.getD_eq_getElem?_getD, List.getElem?_set_ne (Ne.symm har)]⟩

theorem LivePool.after_draw {n : Nat} {pool : List Nat} (h : LivePool (n + 1) pool) (r : Nat) : LivePool n (poolAfter pool n r) where
  fits := by
    have hfits := h.fits
    rw [List.length_set]
    omega
  distinct a b ha hb heq := by
    obtain ⟨a', hplacea, hvala⟩ := h.entry_poolAfter r ha
    obtain ⟨b', hplaceb, hvalb⟩ := h.entry_poolAfter r hb
    have hsame : a' = b' := h.distinct a' b' (by omega) (by omega) (hvala.symm.trans (heq.trans hvalb))
    omega

/-- R349: every position drawn is that of a live entry. -/
theorem mem_drawPositions {left n off x : Nat} {seed : BitVec 16} {pool : List Nat} (h : LivePool n pool) (hleft : left ≤ n)
    (hx : x ∈ (drawPositions left seed pool n off).2) : ∃ a, a < n ∧ x = 2 * pool.getD a 0 + off := by
  induction left generalizing seed pool n with
  | zero => cases hx
  | succ left ih =>
    obtain ⟨n, rfl⟩ : ∃ m, n = m + 1 := ⟨n - 1, by omega⟩
    have hr := cngValue_lt (cngSeed seed) (base := n + 1) (Nat.succ_pos n)
    rw [drawPositions_succ] at hx
    generalize cngValue (cngSeed seed) (n + 1) = r at hr hx
    rcases List.mem_cons.mp hx with rfl | hx
    · exact ⟨_, hr, rfl⟩
    · obtain ⟨a, ha, rfl⟩ := ih (h.after_draw r) (by omega) hx
      obtain ⟨b, hplace, hval⟩ := h.entry_poolAfter r ha
      exact ⟨b, by omega, by rw [hval]⟩

/-- R349: the entry drawn is not live any more, so its position is not drawn again. -/
theorem drawPositions_nodup {left n : Nat} {pool : List Nat} (seed : BitVec 16) (off : Nat) (h : LivePool n pool) (hleft : left ≤ n) :
    (drawPositions left seed pool n off).2.Nodup := by
  induction left generalizing seed pool n with
  | zero => exact List.nodup_nil
  | succ left ih =>
    obtain ⟨n, rfl⟩ : ∃ m, n = m + 1 := ⟨n - 1, by omega⟩
    have hr := cngValue_lt (cngSeed seed) (base := n + 1) (Nat.succ_pos n)
    rw [drawPositions_succ]
    generalize cngValue (cngSeed seed) (n + 1) = r at hr ⊢
    refine List.nodup_cons.mpr ⟨fun hmem => ?_, ih _ (h.after_draw r) (by omega)⟩
    obtain ⟨a, ha, hpos⟩ := mem_drawPositions (h.after_draw r) (by omega) hmem
    obtain ⟨b, hplace, hval⟩ := h.entry_poolAfter r ha
    have hsame : b = r := h.distinct b r (by omega) hr (by omega)
    omega

theorem getD_range {m a : Nat} (ha : a < m) : (List.range m).getD a 0 = a := by simp [List.getD_eq_getElem?_getD, ha]

theorem livePool_range (n : Nat) : LivePool n (List.range n) where
  fits := List.length_range.ge
  distinct a b ha hb heq := by rwa [getD_range ha, getD_range hb] at heq

/-- R51: a subframe has at most six pulses. -/
theorem pulses_le (i : Nat) : pulses i ≤ 6 := by
  unfold pulses
  split <;> omega

/-- Settles O45: a subframe draws from the 30 slots, which are distinct. -/
theorem noisePositionsAreDistinct : Obligations.NoisePositionsAreDistinct := by
  intro seed i off
  have hleft : pulses i ≤ 30 := (pulses_le i).trans (by omega)
  refine ⟨drawPositions_length .., drawPositions_nodup seed off (livePool_range 30) hleft, fun x hx => ?_⟩
  obtain ⟨a, ha, rfl⟩ := mem_drawPositions (livePool_range 30) hleft hx
  exact ⟨a, ha, by rw [getD_range ha]⟩

/-! ### What a frame that is not short ran -/

/-- R370, R381: a frame that is not short and goes on ends with the common tail. -/
theorem runFrame_next {size : Nat} {unpack : Persistent → Unpacked} {s t : State} (hlen : size ≤ s.regs.inLen.toNat)
    (h : toOutcome (runFrame size unpack s) = .next t) :
    ∃ j, decodeByType s.params (badFrame (unpack s.core)) (remapped (unpack s.core)) = .ok j
      ∧ t.core = (finish s.params j).1 ∧ t.regs.out = (finish s.params j).2 := by
  rcases runFrame_ok (toOutcome_eq_next.mp h) with ⟨hshort, _⟩ | ⟨j, hj, rfl⟩
  · omega
  · exact ⟨j, hj, rfl, rfl⟩

/-- R386–R389: a frame instruction decodes a frame of its size. -/
theorem exec_of_frame {i : Instr} (hi : i.source = .frame) :
    ∃ unpack, IsFrame i.size unpack ∧ ∀ s, exec i s = toOutcome (runFrame i.size unpack s) := by
  cases i with
  | nop => cases hi
  | reset => cases hi
  | decode => cases hi
  | frame63 f => exact ⟨_, .frame63 f, fun _ => rfl⟩
  | frame53 f => exact ⟨_, .frame53 f, fun _ => rfl⟩
  | sid f => exact ⟨_, .sid f, fun _ => rfl⟩
  | untx b => exact ⟨_, .untx, fun _ => rfl⟩

/-! ### What a comfort-noise frame leaves -/

/-- R172, R174, R186: UNPACK of a SID or UNTRANSMITTED frame leaves a frame that is not ACTIVE. -/
theorem exec_of_noise {i : Instr} (hi : (∃ f, i = .sid f) ∨ ∃ b, i = .untx b) :
    ∃ unpack, (∀ s, exec i s = toOutcome (runFrame i.size unpack s)) ∧ ∀ c, (remapped (unpack c)).curFrameType ≠ .active := by
  rcases hi with ⟨f, rfl⟩ | ⟨b, rfl⟩
  · exact ⟨unpackSid f, fun _ => rfl, fun c => by simp [unpackSid, remapped, remap]⟩
  · exact ⟨unpackUntx, fun _ => rfl, fun c => by simp [unpackUntx, remapped, remap]⟩

/-- R341, R346, R347: the lags and records that a comfort-noise frame leaves are those its draws wrote. -/
theorem noiseFrame_draws {i : Instr} {s t : State} (hi : (∃ f, i = .sid f) ∨ ∃ b, i = .untx b)
    (hlen : i.size ≤ s.regs.inLen.toNat) (h : exec i s = .next t) :
    ∃ seed c, t.core.pitchLag = (writeDraws s.params (noiseDraws seed) c).pitchLag
      ∧ t.core.subframe = (writeDraws s.params (noiseDraws seed) c).subframe := by
  obtain ⟨unpack, hexec, htype⟩ := exec_of_noise hi
  obtain ⟨j, hj, hcore, _⟩ := runFrame_next hlen (hexec s ▸ h)
  obtain ⟨_, _, _, _, _, hfin, _⟩ := finish_core s.params j
  rcases decodeByType_cases hj with ⟨hactive, _⟩ | ⟨_, hnoise⟩
  · exact absurd hactive (htype _)
  · obtain ⟨seed, _, _, hwrote⟩ := decodeNoise_core hnoise
    exact ⟨seed, _, by rw [hcore, hfin, hwrote], by rw [hcore, hfin, hwrote]⟩

/-- R347: the gain index of each record is the one drawn. -/
theorem writeDraws_adCbGain_eq (p : Params) (d : NoiseDraws) (c : Persistent) {k : Nat} (hk : k < 4) :
    (subframeAt (writeDraws p d c) k).adCbGain = BitVec.ofNat 8 (d.gains.getD k 0) := by
  unfold writeDraws
  interval_cases k <;> simp [subframeAt_setSubframe_other]

/-- R347: no gain index drawn is 0. -/
theorem noiseDraws_gain_pos (seed : BitVec 16) {k : Nat} (hk : k < 4) : 1 ≤ (noiseDraws seed).gains.getD k 0 := by
  interval_cases k <;> exact Nat.le_add_left 1 _

theorem subframeAt_of_fin (c : Persistent) (k : Fin 4) : subframeAt c k = c.subframe[k] := by simp [subframeAt]

/-- A number below 256 is stored in a byte as it is. -/
theorem toNat_ofNat_byte {n : Nat} (h : n < 256) : (BitVec.ofNat 8 n).toNat = n := by
  rw [BitVec.toNat_ofNat, Nat.mod_eq_of_lt h]

/-- Settles O46: the lags and records are those drawn, and each draw is in its range. -/
theorem noiseParameterRanges : Obligations.NoiseParameterRanges := by
  intro i s t hi hlen h
  obtain ⟨seed, c, hlags, hrecords⟩ := noiseFrame_draws hi hlen h
  obtain ⟨⟨lo0, hi0⟩, lo1, hi1⟩ := noiseDraws_lags seed
  have lag0 : t.core.pitchLag[0].toNat = (noiseDraws seed).lag0 := by
    simp only [hlags, writeDraws_pitchLag]
    exact toNat_ofNat_byte (by omega)
  have lag1 : t.core.pitchLag[1].toNat = (noiseDraws seed).lag1 := by
    simp only [hlags, writeDraws_pitchLag]
    exact toNat_ofNat_byte (by omega)
  refine ⟨by omega, by omega, by omega, by omega, fun k => ?_⟩
  have hlo := noiseDraws_gain_pos seed k.isLt
  have hhi := noiseDraws_gain_le seed k.isLt
  have hrecord : t.core.subframe[k] = subframeAt (writeDraws s.params (noiseDraws seed) c) k := by
    rw [hrecords, subframeAt_of_fin]
  rw [hrecord, writeDraws_adCbGain_eq _ _ _ k.isLt, writeDraws_adCbLag _ _ _ k.isLt, toNat_ofNat_byte (by omega)]
  exact ⟨hlo, hhi, by simp [cell]⟩

/-! ### The output stage -/

/-- R381, R382: the part of a decode that depends on the frame type keeps the post-filter bit. -/
theorem decodeByType_postfilter {p : Params} {bad : Bool} {c : Persistent} {j : SynthesisJob} (h : decodeByType p bad c = .ok j) :
    j.core.postfilter = c.postfilter := by
  rcases decodeByType_cases h with ⟨_, h⟩ | ⟨_, h⟩
  · obtain ⟨_, r, hj, ⟨_, hr⟩ | ⟨_, hr⟩⟩ := decodeActive_cases h
    · obtain ⟨_, _, _, _, hr⟩ := goodActive_ok hr
      simp [hj, hr]
    · rcases erasedActive_ok hr with hr | ⟨_, _, hr⟩ <;> simp [hj, hr]
  · obtain ⟨_, _, _, hj⟩ := decodeNoise_core h
    simp [hj]

/-- R331, R379: the synthesis memory takes the last ten samples, whatever the output stage does. -/
theorem finish_synthMem (p : Params) (j : SynthesisJob) :
    (finish p j).1.synthMem = slice (synthesize j.core.synthMem j.lpc j.input) 240 10 := by
  unfold finish outputStage
  dsimp only
  split <;> rfl

/-- R333: without the post-filter the output is the synthesis doubled. -/
theorem finish_out_plain (p : Params) {j : SynthesisJob} (hpf : j.core.postfilter = false) :
    (finish p j).2 = plainOutput (synthesize j.core.synthMem j.lpc j.input) := by
  simp [finish, outputStage, hpf]

theorem rd_plainOutput (a : AudioBuf) {i : Nat} (hi : i < 240) : rd (plainOutput a) i = clip16 (2 * rd a (10 + i)) := by
  obtain ⟨hlo, hhi⟩ := clip16_range (shl (rd a (10 + i)) 1)
  rw [plainOutput, rd_build _ hi, toInt_ofInt_16, wrap16_of_fits hlo hhi, shl, mul_comm]
  rfl

/-- R310: past its memory the formant filter reads the synthesis. -/
theorem rd_formantInput (firMem : Vector I16 10) (a : AudioBuf) {x : Nat} (hlo : 10 ≤ x) (hhi : x < 250) :
    rd (formantInput firMem a) x = rd a x := by
  obtain ⟨hmin, hmax⟩ := rd_range_16 a x
  rw [formantInput, rd_build _ hhi, if_neg (by omega), toInt_ofInt_16, wrap16_of_fits hmin hmax]

/-- R313: the formant filter leaves the last ten samples of its input in the FIR memory. -/
theorem formantPostfilter_firMem (p : Params) (c : Persistent) (lpc : LpcSets) (a : AudioBuf) :
    (formantPostfilter p c lpc a).1.firMem = slice a 240 10 :=
  ext_rd fun k hk => by
    change rd (slice (formantInput c.firMem a) 240 10) k = _
    rw [rd_slice _ _ hk, rd_slice _ _ hk, rd_formantInput _ _ (by omega) (by omega)]

/-- R313, R333: with the post-filter on the FIR memory moves with the synthesis. -/
theorem finish_firMem (p : Params) {j : SynthesisJob} (hpf : j.core.postfilter = true) :
    (finish p j).1.firMem = slice (synthesize j.core.synthMem j.lpc j.input) 240 10 := by
  simp only [finish, outputStage, hpf, if_true]
  exact formantPostfilter_firMem ..

/-- Settles O19: the output stage and the synthesis memory take the same last ten samples of the synthesis. -/
theorem outputStageFollowsSynthesis : Obligations.OutputStageFollowsSynthesis := by
  intro i s t hi hlen h
  obtain ⟨unpack, hf, hexec⟩ := exec_of_frame hi
  obtain ⟨j, hj, hcore, hout⟩ := runFrame_next hlen (hexec s ▸ h)
  obtain ⟨_, _, _, _, _, hwrote⟩ := remapped_wrote hf s.core
  have hpf : j.core.postfilter = s.core.postfilter := by rw [decodeByType_postfilter hj, hwrote]
  rw [hcore, hout, ← hpf, finish_synthMem]
  refine ⟨fun hoff k => ?_, finish_firMem s.params⟩
  rw [finish_out_plain _ hoff, rd_plainOutput _ (by omega), rd_slice _ _ k.isLt, ← add_assoc]

end Sys2Proof.Proofs
end

section
/-! Host commands, reset values, short frames and what a decode reads and writes (47_frame_control.md R370–R385, 60_exceptions.md R400–R408,
70_reset_and_hazards.md R430–R435). DECODE is shown once to be the frame instruction that the stream in `IN_BYTES` begins with; what holds
of every frame then holds of DECODE. -/

namespace Sys2Proof.Proofs
open Sys2Proof.Machine

/-! ### Commands and reset values -/

/-- Settles O1: NOP's meaning is its own argument. -/
theorem nopChangesNothing : Obligations.NopChangesNothing := fun _ => rfl

theorem cell_replicate_zero {w n : Nat} (i : Nat) : cell (Vector.replicate n 0#w) i = 0#w := by simp [cell]

/-- R48: of registers at their reset values only `CONFIG` and `STATUS`, which show fields of `S`, can read anything but 0. -/
theorem byteAt_of_reset {s : State} (hs : s.regs = HostRegs.reset) {a : Nat} (hconfig : a ≠ 0x001) (hstatus : a ≠ 0x003) :
    byteAt s a = 0 := by
  have hbyte (k : Nat) : byteOf16 0#16 k = 0#8 := by simp [byteOf16]
  simp [byteAt, hs, hconfig, hstatus, HostRegs.reset, cell_replicate_zero, hbyte]

/-- R48: `STATUS`. -/
theorem byteAt_status (s : State) : byteAt s 0x003 = statusByte s.regs.err s.regs.bad s.core.pastFrameType := rfl

/-- R48, R431: `STATUS` after a reset. -/
theorem byteAt_status_of_reset {s : State} (hs : s.regs = HostRegs.reset) (hpast : s.core.pastFrameType = .sid) :
    byteAt s 0x003 = 0x10 := by
  rw [byteAt_status, hs, hpast]
  rfl

theorem persistent_reset_subframe (dcLsp : Vector I16 10) (postfilter : Bool) (i : Fin 4) :
    (Persistent.reset dcLsp postfilter).subframe[i] = Subframe.reset := by simp [Persistent.reset]

/-- Settles O2: `S` is `Persistent.reset` at the old post-filter bit, and the registers are those at reset. -/
theorem resetCommandRestoresResetValues : Obligations.ResetCommandRestoresResetValues := fun _ =>
  ⟨_, rfl, rfl, rfl, rfl, rfl, rfl, rfl, rfl, rfl, rfl, rfl, rfl, persistent_reset_subframe _ _, rfl, rfl, rfl, rfl, rfl, rfl, rfl, rfl,
    rfl, rfl, rfl, byteAt_status_of_reset rfl rfl, fun _ => byteAt_of_reset rfl⟩

/-- Settles O3: `S` is `Persistent.reset` with the post-filter on, and the registers are those at reset. -/
theorem powerOnState : Obligations.PowerOnState := fun _ =>
  ⟨rfl, rfl, rfl, rfl, rfl, rfl, rfl, rfl, rfl, rfl, rfl, rfl, persistent_reset_subframe _ _, rfl, rfl, rfl, rfl, rfl, rfl, rfl, rfl, rfl,
    rfl, rfl, byteAt_status_of_reset rfl rfl, fun _ => byteAt_of_reset rfl⟩

/-- R403: a reserved byte runs no command. -/
theorem runCommand_reserved {v : Byte} (hv : 3 ≤ v.toNat) (s : State) : runCommand v s = .next (raiseBadCommand s) := by
  rcases runCommand_cases v s with ⟨rfl, _⟩ | ⟨rfl, _⟩ | ⟨rfl, _⟩ | ⟨_, _, _, h⟩
  · exact absurd hv (by decide)
  · exact absurd hv (by decide)
  · exact absurd hv (by decide)
  · exact h

/-- R48: the low two bits of `STATUS` are the error, and the others do not depend on it. -/
theorem statusByte_fields (err : StatusErr) (bad : Bool) (past : FrameType) :
    (statusByte err bad past).extractLsb' 0 2 = errCode err
      ∧ (statusByte err bad past).extractLsb' 2 6 = 0#2 ++ pastCode past ++ 0#1 ++ BitVec.ofBool bad := by
  cases past <;> cases err <;> cases bad <;> decide

/-- R48: the error shows in `STATUS` only. -/
theorem byteAt_raiseBadCommand (s : State) {a : Nat} (ha : a ≠ 0x003) : byteAt (raiseBadCommand s) a = byteAt s a := by
  simp only [byteAt, if_neg ha]
  rfl

/-- Settles O5: the byte written runs no command, and BadCommand is the error register only. -/
theorem reservedCommandSetsErrOnly : Obligations.ReservedCommandSetsErrOnly := by
  intro s v rest hpend hv
  refine ⟨raiseBadCommand { s with pending := rest }, ?_, rfl, rfl, rfl, rfl, rfl, (statusByte_fields _ _ _).1, ?_, fun a ha => byteAt_raiseBadCommand _ ha⟩
  · rw [step_writeOne hpend, writeByte_cmd, runCommand_reserved hv]
  · exact (statusByte_fields _ _ _).2.trans (statusByte_fields _ _ _).2.symm

/-! ### The frame that DECODE runs -/

/-- R102: the type of the frame in `IN_BYTES` stands in its first byte. -/
theorem infoBits_streamOf_toList (v : Vector Byte 24) : infoBits (streamOf v.toList) = v[0].extractLsb' 0 2 := by
  obtain ⟨b, bs, hv⟩ : ∃ b bs, v.toList = b :: bs := List.exists_cons_of_length_eq_add_one (n := 23) (by simp)
  have hfirst : v[0] = b := by
    rw [← Vector.getElem_toList (by simp)]
    simp [hv]
  rw [hv, infoBits_streamOf_cons, hfirst]

/-- R101: the size of the frame in `IN_BYTES`. -/
theorem inputFrame_size (s : State) :
    (frameOfStream (inputStream s)).size = frameSize (s.regs.inBytes[0].extractLsb' 0 2) := by
  rw [frameOfStream_size, inputStream, infoBits_streamOf_toList]

/-- Settles O7: bytes decode to the frame that their stream begins with, and DECODE runs that frame. -/
theorem decodeRunsTheFrameInInBytes : Obligations.DecodeRunsTheFrameInInBytes := by
  intro s i h
  rw [exec_decode_eq, inputStream, ← (decode_frame_ok_iff.mp h).1]

/-- R370, R386–R389: DECODE and each frame instruction decode a frame. -/
theorem exec_of_decode_or_frame {i : Instr} (hi : i = .decode ∨ i.source = .frame) (s : State) :
    ∃ size unpack, IsFrame size unpack ∧ exec i s = toOutcome (runFrame size unpack s) := by
  have frame {i : Instr} (hi : i.source = .frame) :
      ∃ size unpack, IsFrame size unpack ∧ exec i s = toOutcome (runFrame size unpack s) := by
    obtain ⟨unpack, hf, hexec⟩ := exec_of_frame hi
    exact ⟨_, unpack, hf, hexec s⟩
  rcases hi with rfl | hi
  · rw [exec_decode_eq]
    exact frame (frameOfStream_source _)
  · exact frame hi

/-! ### Short frames -/

theorem runFrame_short {size : Nat} {unpack : Persistent → Unpacked} {s : State} (h : s.regs.inLen.toNat < size) :
    runFrame size unpack s = .ok (raiseShortFrame s) := by
  rcases runFrame_cases size unpack s with ⟨_, hr⟩ | ⟨hge, _⟩
  · exact hr
  · omega

/-- R371, R401: each frame instruction checks the length before it unpacks. -/
theorem exec_short {i : Instr} {s : State} (hi : i.source = .frame) (h : s.regs.inLen.toNat < i.size) :
    exec i s = .next (raiseShortFrame s) := by
  obtain ⟨unpack, _, hexec⟩ := exec_of_frame hi
  rw [hexec, runFrame_short h]
  rfl

/-- Settles O9: the length check precedes UNPACK for each frame. -/
theorem shortFrameComesFirst : Obligations.ShortFrameComesFirst := fun _ _ => exec_short

/-- R48: offsets from 0x100 on show `OUT`. -/
theorem byteAt_out {s t : State} (h : t.regs.out = s.regs.out) {a : Nat} (ha : 0x100 ≤ a) : byteAt t a = byteAt s a := by
  simp only [byteAt, h, if_neg (show a ≠ 0x001 by omega), if_neg (show a ≠ 0x002 by omega), if_neg (show a ≠ 0x003 by omega),
    if_neg (show a ≠ 0x004 by omega), if_neg (show ¬(a = 0x006 ∨ a = 0x007) by omega),
    if_neg (show ¬(0x020 ≤ a ∧ a < 0x038) by omega)]

/-- Settles O8: DECODE runs the frame in `IN_BYTES`, which is short; every frame has at least one byte. -/
theorem shortFrameReportsAndSkips : Obligations.ShortFrameReportsAndSkips := by
  intro s hs
  have hpos := (size_range (frameOfStream (inputStream s))).1
  have hshort : s.regs.inLen.toNat < (frameOfStream (inputStream s)).size := by
    rcases hs with hzero | hlt
    · rw [hzero]
      exact hpos
    · rwa [inputFrame_size]
  refine ⟨raiseShortFrame s, ?_, rfl, rfl, rfl, fun a ha => byteAt_out (raiseShortFrame_out s) ha⟩
  rw [exec_decode_eq, exec_short (frameOfStream_source _) hshort]

/-! ### What a decode writes of the window -/

/-- R371, R381, R382: a frame writes `S` but for the post-filter bit, and the reporting registers and `OUT`. -/
theorem runFrame_frame {size : Nat} {unpack : Persistent → Unpacked} (hf : IsFrame size unpack) {s t : State}
    (h : runFrame size unpack s = .ok t) :
    t.core.postfilter = s.core.postfilter
      ∧ ∃ c e b n k o, t = { s with core := c, regs := { s.regs with err := e, bad := b, consumed := n, samples := k, out := o } } := by
  rcases runFrame_ok h with ⟨_, rfl⟩ | ⟨j, hj, rfl⟩
  · exact ⟨rfl, _, _, _, _, _, _, rfl⟩
  · refine ⟨?_, _, _, _, _, _, _, rfl⟩
    obtain ⟨_, _, _, _, _, hfin, _⟩ := finish_core s.params j
    obtain ⟨_, _, _, _, _, hwrote⟩ := remapped_wrote hf s.core
    dsimp only
    rw [hfin]
    exact (decodeByType_postfilter hj).trans (by rw [hwrote])

/-- R48, R71: outside `STATUS`, `CONSUMED`, `SAMPLES` and `OUT` the window shows `CONFIG`, `IN_LEN` and `IN_BYTES`. -/
theorem byteAt_inputs {s t : State} (hpf : t.core.postfilter = s.core.postfilter) (hlen : t.regs.inLen = s.regs.inLen)
    (hin : t.regs.inBytes = s.regs.inBytes) {a : Nat} (ha : a < 0x100 ∨ 0x2E0 ≤ a) (h3 : a ≠ 0x003) (h4 : a ≠ 0x004) (h6 : a ≠ 0x006)
    (h7 : a ≠ 0x007) : byteAt t a = byteAt s a := by
  have hout : ¬(0x100 ≤ a ∧ a < 0x2E0) := by omega
  simp only [byteAt, hpf, hlen, hin, if_neg h3, if_neg h4, if_neg (not_or.mpr ⟨h6, h7⟩), if_neg hout]

/-- Settles O20: a frame writes the reporting registers only, and the rest of the window shows none of them. -/
theorem decodeWindowFrame : Obligations.DecodeWindowFrame := by
  intro i s t hi h
  obtain ⟨size, unpack, hf, hexec⟩ := exec_of_decode_or_frame hi s
  obtain ⟨hpf, _, _, _, _, _, _, rfl⟩ := runFrame_frame hf (toOutcome_eq_next.mp (hexec ▸ h))
  exact ⟨hpf, rfl, rfl, rfl, rfl, rfl, fun a => byteAt_inputs hpf rfl rfl⟩

/-! ### What no step writes -/

/-- R435: an instruction writes neither the parameters nor the host's own fields. -/
theorem exec_hostFields {i : Instr} {s t : State} (h : exec i s = .next t) :
    t.params = s.params ∧ t.pending = s.pending ∧ t.readData = s.readData := by
  rcases exec_next_cases h with rfl | rfl | ⟨size, unpack, hf, hrun⟩
  · exact ⟨rfl, rfl, rfl⟩
  · exact ⟨rfl, rfl, rfl⟩
  · obtain ⟨_, _, _, _, _, _, _, rfl⟩ := runFrame_frame hf hrun
    exact ⟨rfl, rfl, rfl⟩

theorem params_keptByParts (p : Params) : KeptByParts fun s => s.params = p where
  pending := fun _ hs => hs
  readData := fun _ hs => hs
  store := fun a v hs => (storeByte_params _ a v).trans hs
  badCommand := fun hs => hs
  exec := fun hs h => (exec_hostFields h).1.trans hs

/-- Settles O57: no part of a step writes the parameters. -/
theorem parametersAndHostFieldsStay : Obligations.ParametersAndHostFieldsStay :=
  ⟨fun s _ h => step_keeps (params_keptByParts s.params) rfl h, fun _ _ _ h => exec_hostFields h⟩

/-! ### What a decode reads -/

/-- R112: a frame is determined by its own bytes. -/
theorem frameOfStream_eq_of_take {bs bs' : List Byte} (hinfo : infoBits (streamOf bs) = infoBits (streamOf bs'))
    (hlen : (frameOfStream (streamOf bs)).size ≤ bs.length) (hlen' : (frameOfStream (streamOf bs)).size ≤ bs'.length)
    (h : bs.take (frameOfStream (streamOf bs)).size = bs'.take (frameOfStream (streamOf bs)).size) :
    frameOfStream (streamOf bs) = frameOfStream (streamOf bs') := by
  have hsize : (frameOfStream (streamOf bs)).size = (frameOfStream (streamOf bs')).size := by
    rw [frameOfStream_size, frameOfStream_size, hinfo]
  have hbytes : encode (frameOfStream (streamOf bs)) = encode (frameOfStream (streamOf bs')) := by
    rw [take_size_eq_encode hlen, hsize, take_size_eq_encode (hsize ▸ hlen')] at h
    exact h
  rw [← frameOfStream_streamOf_encode (frameOfStream_source (streamOf bs)), hbytes,
    frameOfStream_streamOf_encode (frameOfStream_source _)]

/-- R383: `IN_BYTES` that agree on the bytes of the frame hold the same frame. -/
theorem inputFrame_eq {s s' : State}
    (h : s.regs.inBytes.toList.take (frameSize (s.regs.inBytes[0].extractLsb' 0 2))
      = s'.regs.inBytes.toList.take (frameSize (s.regs.inBytes[0].extractLsb' 0 2))) :
    frameOfStream (inputStream s) = frameOfStream (inputStream s') := by
  rw [← inputFrame_size] at h
  obtain ⟨hpos, hmax⟩ := size_range (frameOfStream (inputStream s))
  have hfirst : s.regs.inBytes[0] = s'.regs.inBytes[0] := by
    have hhead := congrArg (·[0]?) h
    simp only [List.getElem?_take_of_lt hpos] at hhead
    simpa using hhead
  have hlen (v : Vector Byte 24) : (frameOfStream (inputStream s)).size ≤ v.toList.length := by simpa using hmax
  refine frameOfStream_eq_of_take ?_ (hlen _) (hlen _) h
  rw [infoBits_streamOf_toList, infoBits_streamOf_toList, hfirst]

/-- The two ways a decode of one frame ends alike from two states (R383). -/
def EndAlike (o o' : Host.Outcome State Fault Refusal) : Prop :=
  (∀ e, o = .fault e → o' = .fault e)
    ∧ ∀ t, o = .next t → ∃ t', o' = .next t' ∧ t'.core = t.core
      ∧ t'.regs.err = t.regs.err ∧ t'.regs.bad = t.regs.bad ∧ t'.regs.consumed = t.regs.consumed
      ∧ t'.regs.samples = t.regs.samples ∧ (t.regs.samples = 240 → t'.regs.out = t.regs.out)

/-- R383: of the registers a frame reads `IN_LEN` only. -/
theorem runFrame_endAlike (size : Nat) (unpack : Persistent → Unpacked) {s s' : State} (hcore : s.core = s'.core)
    (hparams : s.params = s'.params) (hlen : s.regs.inLen = s'.regs.inLen) :
    EndAlike (toOutcome (runFrame size unpack s)) (toOutcome (runFrame size unpack s')) := by
  unfold runFrame isShort
  dsimp only
  rw [hcore, hparams, hlen]
  split
  case isTrue =>
    refine ⟨fun _ he => (nomatch he), fun t ht => ?_⟩
    cases ht
    exact ⟨_, rfl, hcore.symm, rfl, rfl, hlen.symm, rfl, fun h => absurd h (by decide : (0 : BitVec 16) ≠ 240)⟩
  case isFalse =>
    cases decodeUnpacked s'.params (unpack s'.core) with
    | error e => exact ⟨fun _ he => by cases he; rfl, fun _ ht => nomatch ht⟩
    | ok r =>
      refine ⟨fun _ he => (nomatch he), fun t ht => ?_⟩
      cases ht
      exact ⟨_, rfl, rfl, rfl, rfl, rfl, rfl, fun _ => rfl⟩

/-- Settles O24: both states hold the same frame, and it reads nothing else that differs. -/
theorem decodeDependsOnItsInputsOnly : Obligations.DecodeDependsOnItsInputsOnly := by
  intro s s' hcore hparams hlen hbytes
  obtain ⟨unpack, _, hexec⟩ := exec_of_frame (frameOfStream_source (inputStream s))
  rw [exec_decode_eq, exec_decode_eq s', ← inputFrame_eq hbytes, hexec, hexec]
  exact runFrame_endAlike _ unpack hcore hparams hlen

end Sys2Proof.Proofs
end

section
/-! How instructions stop (60_exceptions.md R400–R408). Each part of a decode is shown to fault only with a ROM index, with the model's own
scratch index (log entry 11), or, where the frame is a good one at 5300 bit/s, with the harmonic fault; nothing is refused. UNTX stops exactly
where an interpolated LSP value has no cosine entry, because that conversion is its only part that can. -/

namespace Sys2Proof.Proofs
open Sys2Proof.Machine

/-- Settles O25: UNPACK of an ACTIVE frame fails on its forbidden codes, and the other two have no check. -/
theorem unpackFailsExactlyOnForbiddenCodes : Obligations.UnpackFailsExactlyOnForbiddenCodes :=
  ⟨badFrame_unpack63, badFrame_unpack53, fun _ _ => rfl, fun _ => rfl⟩

/-! ### No step is refused -/

theorem exec_ne_refused (i : Instr) (s : State) (r : Refusal) : exec i s ≠ .refused r := by
  have decodes (h : i = .decode ∨ i.source = .frame) : exec i s ≠ .refused r := by
    obtain ⟨_, _, _, hexec⟩ := exec_of_decode_or_frame h s
    rw [hexec]
    exact toOutcome_ne_refused _ r
  cases i with
  | nop => exact nofun
  | reset => exact nofun
  | decode => exact decodes (.inl rfl)
  | frame63 f => exact decodes (.inr rfl)
  | frame53 f => exact decodes (.inr rfl)
  | sid f => exact decodes (.inr rfl)
  | untx b => exact decodes (.inr rfl)

theorem writeByte_ne_refused (s : State) (a : Nat) (v : Byte) (r : Refusal) : writeByte s a v ≠ .refused r := by
  rcases writeByte_cases s a v with ⟨_, h⟩ | ⟨_, _, h⟩ | ⟨_, h⟩ <;> rw [h]
  case inl =>
    rcases runCommand_cases v s with ⟨_, hr⟩ | ⟨_, hr⟩ | ⟨_, hr⟩ | ⟨_, _, _, hr⟩ <;> rw [hr]
    · exact exec_ne_refused _ s r
    · exact exec_ne_refused _ s r
    · exact exec_ne_refused _ s r
    · exact nofun
  case inr.inl => exact nofun
  case inr.inr => exact nofun

theorem writeBytes_ne_refused (s : State) (a : Nat) (vs : List Byte) (r : Refusal) : writeBytes s a vs ≠ .refused r := by
  induction vs generalizing s a with
  | nil => exact nofun
  | cons v vs ih =>
    rw [writeBytes_cons]
    cases h : writeByte s a v with
    | next t => exact ih t (a + 1)
    | fault e => exact nofun
    | refused q => exact absurd h (writeByte_ne_refused s a v q)

/-- R400, R403: an access that is not performed is a fault. -/
theorem step_ne_refused (s : State) (r : Refusal) : step s ≠ .refused r := by
  cases hpend : s.pending with
  | nil => simp [step, hostStep, hpend]
  | cons a rest =>
    rw [step_of_pending hpend]
    cases a with
    | read off w =>
      simp only [hostAccess]
      split <;> exact nofun
    | write off w v => exact writeBytes_ne_refused _ _ _ r

/-! ### The faults of the parts of a decode -/

section Decode
variable {P : Fault → Prop}

/-- R238, log entry 11: the guard on the effective lag can fire outside the invariant. -/
theorem adaptiveCodebook_faultsOnly_of_scratch (hrom : P .romIndexFault) (hscratch : P .scratchIndexFault) (rom : Rom) (rate : Rate)
    (e : ExcBuf) (base lag : Nat) (sf : Subframe) : FaultsOnly P (adaptiveCodebook rom rate e base lag sf) := by
  rcases adaptiveCodebook_cases rom rate e base lag sf with ⟨_, h⟩ | ⟨hlo, hhi, _⟩
  · rw [h]
    exact faultsOnly_error hscratch
  · exact adaptiveCodebook_faultsOnly hrom rom rate e base ⟨hlo, hhi⟩

/-- R230, R406: only the codebook of 5300 bit/s has the harmonic fault. -/
theorem fixedCodebook_faultsOnly_of_rate (hrom : P .romIndexFault) (rom : Rom) {rate : Rate} (hidx : rate = .r5300 → P .indexFault)
    (s : Nat) (sf : Subframe) (lag : Nat) : FaultsOnly P (fixedCodebook rom rate s sf lag) := by
  cases rate with
  | r6300 => exact fcb63_faultsOnly hrom rom s sf lag
  | r5300 => exact fcb53_faultsOnly hrom (hidx rfl) rom sf lag

/-- R241, R274, R375: a good ACTIVE frame. -/
theorem goodActive_faultsOnly_of_rate (hrom : P .romIndexFault) (hscratch : P .scratchIndexFault) (p : Params) {c : Persistent}
    (hidx : c.curRate = .r5300 → P .indexFault) : FaultsOnly P (goodActive p c) := by
  refine faultsOnly_bind (faultsOnly_bind (romRead_faultsOnly hrom _ _) fun _ _ => faultsOnly_ok _) fun d hd => ?_
  obtain ⟨g, _, hd⟩ := bind_eq_ok.mp hd
  cases hd
  have sub (e : ExcBuf) (s : Nat) : FaultsOnly P (excitationSubframe p { c with interpGain := BitVec.ofInt 32 g } e s) :=
    faultsOnly_bind (fixedCodebook_faultsOnly_of_rate hrom _ hidx _ _ _) fun _ _ =>
      faultsOnly_bind (adaptiveCodebook_faultsOnly_of_scratch hrom hscratch _ _ _ _ _ _) fun _ _ => faultsOnly_ok _
  refine faultsOnly_bind ?_ fun _ _ => faultsOnly_ok _
  exact faultsOnly_bind (sub _ 0) fun _ _ => faultsOnly_bind (sub _ 1) fun _ _ => faultsOnly_bind (sub _ 2) fun _ _ => sub _ 3

/-- R276–R279, log entry 11: the guard on `interp_index` can fire outside the invariant. -/
theorem erasedActive_faultsOnly_of_scratch (hscratch : P .scratchIndexFault) (c : Persistent) : FaultsOnly P (erasedActive c) := by
  unfold erasedActive
  dsimp only
  split
  · exact faultsOnly_ok _
  · rcases concealResidual_cases (decayGain c) with ⟨_, h⟩ | ⟨_, h⟩ | ⟨_, _, h⟩ <;> rw [h]
    · exact faultsOnly_ok _
    · exact faultsOnly_error hscratch
    · exact faultsOnly_ok _

/-- R370 step 3: only a good frame runs the codebooks. -/
theorem decodeActive_faultsOnly_of_rate (hrom : P .romIndexFault) (hscratch : P .scratchIndexFault) (p : Params) {bad : Bool}
    {c : Persistent} (hidx : bad = false → c.curRate = .r5300 → P .indexFault) : FaultsOnly P (decodeActive p bad c) := by
  refine faultsOnly_bind (lspInterp_faultsOnly hrom _ _ _) fun lpc _ => faultsOnly_bind ?_ fun _ _ => faultsOnly_ok _
  unfold activeExcitation
  cases bad with
  | false => exact goodActive_faultsOnly_of_rate hrom hscratch p (hidx rfl)
  | true =>
    rw [if_neg (by simp)]
    exact erasedActive_faultsOnly_of_scratch hscratch _

/-- R370 step 4: a comfort-noise frame has no fixed codebook. -/
theorem decodeNoise_faultsOnly_of_scratch (hrom : P .romIndexFault) (hscratch : P .scratchIndexFault) (p : Params) (c : Persistent) :
    FaultsOnly P (decodeNoise p c) := by
  have sub (c : Persistent) (e : ExcBuf) (s : Nat) : FaultsOnly P (noiseSubframe p c e s) :=
    faultsOnly_bind (adaptiveCodebook_faultsOnly_of_scratch hrom hscratch _ _ _ _ _ _) fun _ _ => faultsOnly_ok _
  have pair (c : Persistent) (e : ExcBuf) (k : Nat) (pos : List Nat) (sign : List Int) : FaultsOnly P (noisePair p c e k pos sign) :=
    faultsOnly_bind (sub _ _ _) fun _ _ => faultsOnly_bind (sub _ _ _) fun _ _ => faultsOnly_ok _
  refine faultsOnly_bind ?_ fun _ _ => faultsOnly_bind (lspInterp_faultsOnly hrom _ _ _) fun _ _ => faultsOnly_ok _
  exact faultsOnly_bind (pair _ _ _ _ _) fun _ _ => faultsOnly_bind (pair _ _ _ _ _) fun _ _ => faultsOnly_ok _

/-- R370, R406: a frame has the harmonic fault only where UNPACK succeeds with an ACTIVE frame at 5300 bit/s. -/
theorem runFrame_faultsOnly (hrom : P .romIndexFault) (hscratch : P .scratchIndexFault) (size : Nat)
    {unpack : Persistent → Unpacked} {s : State}
    (hidx : ∀ d, unpack s.core = .ok d → d.curFrameType = .active → d.curRate = .r5300 → P .indexFault) :
    FaultsOnly P (runFrame size unpack s) := by
  have hdecode : FaultsOnly P (decodeByType s.params (badFrame (unpack s.core)) (remapped (unpack s.core))) := by
    unfold decodeByType
    split
    next htype =>
      refine decodeActive_faultsOnly_of_rate hrom hscratch _ fun hgood hrate => ?_
      rcases remapped_cases (unpack s.core) with ⟨d, hd, _, hr⟩ | ⟨_, _, hbad, _⟩ | ⟨_, _, hbad, _⟩
      · rw [hr] at htype hrate
        exact hidx d hd htype hrate
      · exact absurd (hgood.symm.trans hbad) nofun
      · exact absurd (hgood.symm.trans hbad) nofun
    next => exact decodeNoise_faultsOnly_of_scratch hrom hscratch _ _
    next => exact decodeNoise_faultsOnly_of_scratch hrom hscratch _ _
  rcases runFrame_cases size unpack s with ⟨_, h⟩ | ⟨_, ⟨e, he, h⟩ | ⟨c, out, _, h⟩⟩ <;> rw [h]
  · exact faultsOnly_ok _
  · exact faultsOnly_error ((faultsOnly_bind hdecode fun _ _ => faultsOnly_ok _) e he)
  · exact faultsOnly_ok _

end Decode

/-! ### The faults of the instructions -/

/-- R173, R175: UNPACK of a header that succeeds leaves its rate and its lags. -/
theorem unpackHeader_gainChecksRead (c : Persistent) (rate : Rate) (hd : ActiveHeader) :
    Ends (GainChecksRead rate hd) (fun _ => True) (unpackHeader c rate hd) :=
  unpackHeader_ends (gainChecksRead_recordClosed rate hd) (fun _ _ => trivial) (unpackPitch_gainChecksRead _ hd)

/-- R386: a FRAME63 is at 6300 bit/s. -/
theorem unpack63_curRate {f : Frame63} {c d : Persistent} (h : unpack63 f c = .ok d) : d.curRate = .r6300 := by
  obtain ⟨c0, h0, h⟩ := bind_eq_ok.mp h
  cases h
  simpa [writePulse] using ((unpackHeader_gainChecksRead c .r6300 f.header).1 c0 h0).1

/-- A fault that a decode can stop with, the harmonic one only where `fives` holds (R405, R406, log entry 11). -/
def DecodeFault (fives : Prop) (e : Fault) : Prop := e ≠ .outsideWindow ∧ (e = .indexFault → fives)

theorem runFrame_decodeFault {fives : Prop} (size : Nat) {unpack : Persistent → Unpacked} {s : State}
    (h : ∀ d, unpack s.core = .ok d → d.curFrameType = .active → d.curRate = .r5300 → fives) :
    FaultsOnly (DecodeFault fives) (runFrame size unpack s) :=
  runFrame_faultsOnly ⟨nofun, nofun⟩ ⟨nofun, nofun⟩ size fun d hd htype hrate => ⟨nofun, fun _ => h d hd htype hrate⟩

/-- R405, R406: the harmonic fault is that of a FRAME53. -/
theorem exec_frame_fault {i : Instr} {s : State} {e : Fault} (hi : i.source = .frame) (h : exec i s = .fault e) :
    DecodeFault (∃ f, i = .frame53 f) e := by
  cases i with
  | nop => cases hi
  | reset => cases hi
  | decode => cases hi
  | frame63 f =>
    refine runFrame_decodeFault 24 (fun d hd _ hrate => ?_) e (toOutcome_eq_fault.mp h)
    exact absurd ((unpack63_curRate hd).symm.trans hrate) nofun
  | frame53 f => exact runFrame_decodeFault 20 (fun _ _ _ _ => ⟨f, rfl⟩) e (toOutcome_eq_fault.mp h)
  | sid f =>
    refine runFrame_decodeFault 4 (fun d hd htype _ => ?_) e (toOutcome_eq_fault.mp h)
    cases hd
    simp at htype
  | untx b =>
    refine runFrame_decodeFault 1 (fun d hd htype _ => ?_) e (toOutcome_eq_fault.mp h)
    cases hd
    cases htype

/-- R102: a stream that begins with a FRAME53 says so in its info bits. -/
theorem infoBits_of_frame53 {w : BitVec 192} {f : Frame53} (h : frameOfStream w = .frame53 f) : infoBits w = 1 := by
  rcases frameOfStream_cases w with ⟨_, hi⟩ | ⟨hinfo, _⟩ | ⟨_, hi⟩ | ⟨_, hi⟩
  · cases h.symm.trans hi
  · exact hinfo
  · cases h.symm.trans hi
  · cases h.symm.trans hi

/-- R405, R406, log entry 10: how an instruction can stop. -/
theorem exec_fault {i : Instr} {s : State} {e : Fault} (h : exec i s = .fault e) :
    i ≠ .nop ∧ i ≠ .reset
      ∧ DecodeFault ((∃ f, i = .frame53 f) ∨ (i = .decode ∧ s.regs.inBytes[0].extractLsb' 0 2 = 1)) e := by
  have frame (hi : i.source = .frame) :
      DecodeFault ((∃ f, i = .frame53 f) ∨ (i = .decode ∧ s.regs.inBytes[0].extractLsb' 0 2 = 1)) e :=
    (exec_frame_fault hi h).imp_right fun hfives hidx => .inl (hfives hidx)
  cases i with
  | nop => cases h
  | reset => cases h
  | frame63 f => exact ⟨nofun, nofun, frame rfl⟩
  | frame53 f => exact ⟨nofun, nofun, frame rfl⟩
  | sid f => exact ⟨nofun, nofun, frame rfl⟩
  | untx b => exact ⟨nofun, nofun, frame rfl⟩
  | decode =>
    rw [exec_decode_eq] at h
    refine ⟨nofun, nofun, (exec_frame_fault (frameOfStream_source _) h).imp_right fun hfives hidx => .inr ⟨rfl, ?_⟩⟩
    obtain ⟨f, hf⟩ := hfives hidx
    rw [← infoBits_streamOf_toList]
    exact infoBits_of_frame53 hf

/-- Settles O59: the parts of a decode fault as named, and under the invariant their lag guards do not fire. -/
theorem stopsOnlyAsTheRulesSay : Obligations.StopsOnlyAsTheRulesSay := by
  refine ⟨step_ne_refused, fun i s e h => ?_⟩
  obtain ⟨hnop, hreset, hwindow, hfives⟩ := exec_fault h
  exact ⟨hnop, hreset, hwindow, hfives, fun hs hp => exec_ruleFault hs hp h⟩

/-! ### The cosine table -/

/-- R207: a negative cosine that is found has its two entries. -/
theorem inTable_of_negCos {tab : CosTable} {v x : Int} (h : negCos tab v = .ok x) : 0 ≤ asr v 7 ∧ asr v 7 + 1 < (tab.len : Int) := by
  rcases negCos_cases tab v with ⟨_, hfault⟩ | ⟨hinside, _⟩
  · cases hfault.symm.trans h
  · omega

/-- R206: a conversion that gives coefficients has found all ten cosines. -/
theorem lspInTable_of_lsp2lpc {tab : CosTable} {v a : Vector I16 10} (h : lsp2lpc tab v = .ok a) : LspInTable tab v := by
  simp only [lsp2lpc, bind_eq_ok] at h
  obtain ⟨_, h0, _, h1, _, h2, _, h3, _, h4, _, h5, _, h6, _, h7, _, h8, _, h9, _⟩ := h
  intro j
  fin_cases j
  exacts [inTable_of_negCos h0, inTable_of_negCos h1, inTable_of_negCos h2, inTable_of_negCos h3, inTable_of_negCos h4,
    inTable_of_negCos h5, inTable_of_negCos h6, inTable_of_negCos h7, inTable_of_negCos h8, inTable_of_negCos h9]

/-- R212, R405: the interpolator completes exactly inside the cosine table. -/
theorem lspInterp_completes_iff {tab : CosTable} {cur prev : Vector I16 10} :
    Completes (lspInterp tab cur prev) ↔ InterpInTable tab cur prev := by
  refine ⟨fun ⟨_, h⟩ => ?_, lspInterp_completes⟩
  simp only [lspInterp, bind_eq_ok] at h
  obtain ⟨_, h0, _, h1, _, h2, _, h3, _⟩ := h
  intro s
  fin_cases s
  exacts [lspInTable_of_lsp2lpc h0, lspInTable_of_lsp2lpc h1, lspInTable_of_lsp2lpc h2, lspInTable_of_lsp2lpc h3]

/-- R378, R405: a comfort-noise decode completes exactly inside the cosine table. -/
theorem decodeNoise_completes_iff {p : Params} (hp : NoiseLagsOk p) {c : Persistent} :
    Completes (decodeNoise p c) ↔ InterpInTable p.rom.cosTab (sidUpdate p c).sidLsp c.prevLsp := by
  refine ⟨fun ⟨_, h⟩ => ?_, decodeNoise_completes hp⟩
  obtain ⟨r, lpc, hr, hlpc, _⟩ := decodeNoise_ok h
  obtain ⟨_, _, _, _, rfl⟩ := generateNoise_ok hr
  simpa using lspInterp_completes_iff.mp ⟨lpc, hlpc⟩

/-- R377: only a SID frame has a reference LSP of its own. -/
theorem sidUpdate_sidLsp_of_ne {p : Params} {c : Persistent} (h : c.curFrameType ≠ .sid) : (sidUpdate p c).sidLsp = c.sidLsp := by
  unfold sidUpdate
  split
  next hsid => exact absurd hsid h
  next => split <;> rfl
  next => rfl

/-- R370 step 4: an UNTRANSMITTED frame that is not short runs the comfort-noise decode. -/
theorem decodeByType_untx (p : Params) (c : Persistent) :
    decodeByType p (badFrame (unpackUntx c)) (remapped (unpackUntx c))
      = decodeNoise p { c with curFrameType := .untransmitted } := rfl

/-- R378, R405: the comfort-noise decode of an UNTRANSMITTED frame uses the LSP vectors of `S`. -/
theorem untxDecode_completes_iff {p : Params} (hp : NoiseLagsOk p) (c : Persistent) :
    Completes (decodeNoise p { c with curFrameType := .untransmitted }) ↔ InterpInTable p.rom.cosTab c.sidLsp c.prevLsp := by
  have htype : ({ c with curFrameType := .untransmitted } : Persistent).curFrameType ≠ .sid := nofun
  rw [decodeNoise_completes_iff hp, sidUpdate_sidLsp_of_ne htype]

/-- R389: an UNTRANSMITTED frame that is not short ends as its comfort-noise decode. -/
theorem runFrame_untx {s : State} (hlen : 1 ≤ s.regs.inLen.toNat) {e : Fault} :
    runFrame 1 unpackUntx s = .error e ↔ decodeNoise s.params { s.core with curFrameType := .untransmitted } = .error e := by
  have hdecode : decodeUnpacked s.params (unpackUntx s.core) = .error e
      ↔ decodeNoise s.params { s.core with curFrameType := .untransmitted } = .error e := by
    rw [decodeUnpacked, bind_eq_error, decodeByType_untx]
    exact or_iff_left fun ⟨_, _, h⟩ => nomatch h
  rw [← hdecode]
  rcases runFrame_cases 1 unpackUntx s with ⟨hshort, _⟩ | ⟨_, ⟨d, hd, hr⟩ | ⟨c, out, hd, hr⟩⟩
  · omega
  · rw [hd, hr]
    exact ⟨fun h => by cases h; rfl, fun h => by cases h; rfl⟩
  · rw [hd, hr]
    exact iff_of_false nofun nofun

/-- Settles O31: the comfort-noise decode completes exactly inside the table, and its only fault is of the ROM. -/
theorem untxStopsExactlyOutsideCosTable : Obligations.UntxStopsExactlyOutsideCosTable := by
  intro b s hlen hp
  have hfault := decodeNoise_faultsOnly (P := (· = .romIndexFault)) rfl hp { s.core with curFrameType := .untransmitted }
  change _ ↔ toOutcome (runFrame 1 unpackUntx s) = _
  rw [toOutcome_eq_fault, runFrame_untx hlen, ← untxDecode_completes_iff hp]
  cases hd : decodeNoise s.params { s.core with curFrameType := .untransmitted } with
  | ok j => exact iff_of_false (not_not.mpr (completes_ok j)) nofun
  | error e =>
    obtain rfl := hfault e hd
    exact iff_of_true (fun ⟨_, h⟩ => nomatch h) rfl

end Sys2Proof.Proofs
end

section
/-! Comfort-noise frames (46_synthesis_cng.md R340–R362, 47_frame_control.md R377–R381, R388, R389). What a comfort-noise decode writes of `S`
is one equation, from which the fields that SID and UNTX set, and those they leave, are read off. At gain zero over zero memories each part
of the decode gives zeros, and the state it leaves is again such a state. -/

namespace Sys2Proof.Proofs
open Sys2Proof.Machine

/-! ### What a comfort-noise frame writes -/

/-- R379–R381: the tail of a decode writes the formant memories only with the post-filter on. -/
theorem finish_core_formant (p : Params) (j : SynthesisJob) :
    ∃ synth fir iir refl pf, (finish p j).1 = { j.core with
        synthMem := synth, firMem := fir, iirMem := iir, reflectionCoef := refl, pfGain := pf
        pastFrameType := j.core.curFrameType }
      ∧ (j.core.postfilter = false →
        fir = j.core.firMem ∧ iir = j.core.iirMem ∧ refl = j.core.reflectionCoef ∧ pf = j.core.pfGain) := by
  unfold finish outputStage
  dsimp only
  split
  next hpf => exact ⟨_, _, _, _, _, rfl, fun hoff => absurd (hoff.symm.trans hpf) nofun⟩
  next => exact ⟨_, _, _, _, _, rfl, fun _ => ⟨rfl, rfl, rfl, rfl⟩⟩

/-- `d` is what a comfort-noise decode of `c` leaves (R341, R346, R362, R377–R381). -/
def NoiseWrote (p : Params) (c d : Persistent) : Prop :=
  ∃ seed exc synth fir iir refl pf,
    d = { writeDraws p (noiseDraws seed) (smoothCurGain p (sidUpdate p c)) with
        prevExcitation := exc, prevLsp := (sidUpdate p c).sidLsp, synthMem := synth, firMem := fir, iirMem := iir
        reflectionCoef := refl, pfGain := pf, pastFrameType := c.curFrameType }
      ∧ (c.postfilter = false → fir = c.firMem ∧ iir = c.iirMem ∧ refl = c.reflectionCoef ∧ pf = c.pfGain)

theorem finish_noiseWrote {p : Params} {c : Persistent} {j : SynthesisJob} (h : decodeNoise p c = .ok j) :
    NoiseWrote p c (finish p j).1 := by
  have hprev := decodeNoise_prevLsp h
  obtain ⟨seed, exc, lsp, hj⟩ := decodeNoise_core h
  obtain ⟨synth, fir, iir, refl, pf, hfin, hoff⟩ := finish_core_formant p j
  rw [hj] at hprev hfin hoff
  obtain rfl : lsp = (sidUpdate p c).sidLsp := hprev
  exact ⟨seed, exc, synth, fir, iir, refl, pf, by simpa using hfin, by simpa using hoff⟩

/-- R370 steps 3, 4. -/
theorem decodeByType_of_noise (p : Params) (bad : Bool) {c : Persistent} (h : c.curFrameType ≠ .active) :
    decodeByType p bad c = decodeNoise p c := by
  unfold decodeByType
  split
  next hactive => exact absurd hactive h
  next => rfl
  next => rfl

/-- R388, R389: a frame that UNPACK leaves as comfort noise completes inside the cosine table. -/
theorem runFrame_noise_completes {size : Nat} {unpack : Persistent → Unpacked} {s : State} (hlen : size ≤ s.regs.inLen.toNat)
    (hp : NoiseLagsOk s.params) (htype : (remapped (unpack s.core)).curFrameType ≠ .active)
    (hlsp : InterpInTable s.params.rom.cosTab (sidUpdate s.params (remapped (unpack s.core))).sidLsp
      (remapped (unpack s.core)).prevLsp) :
    ∃ j, decodeNoise s.params (remapped (unpack s.core)) = .ok j ∧ runFrame size unpack s = .ok { s with
      core := (finish s.params j).1
      regs := reportDecode size (badFrame (unpack s.core)) (finish s.params j).2 s.regs } := by
  obtain ⟨j, hj⟩ := decodeNoise_completes hp hlsp
  exact ⟨j, hj, runFrame_of_decodeByType hlen ((decodeByType_of_noise _ _ htype).trans hj)⟩

/-- R377, R378, R381: the fields that a comfort-noise frame leaves are those of its update. -/
structure NoiseFields (p : Params) (c d : Persistent) : Prop where
  past : d.pastFrameType = c.curFrameType
  cur : d.curFrameType = c.curFrameType
  prevLsp : d.prevLsp = d.sidLsp
  sidLsp : d.sidLsp = (sidUpdate p c).sidLsp
  sidGain : d.sidGain = (sidUpdate p c).sidGain
  curGain : d.curGain = (smoothCurGain p (sidUpdate p c)).curGain
  lspIndex : d.lspIndex = c.lspIndex

theorem NoiseWrote.fields {p : Params} {c d : Persistent} (h : NoiseWrote p c d) : NoiseFields p c d := by
  obtain ⟨_, _, _, _, _, _, _, rfl, _⟩ := h
  constructor <;> simp

/-- Only the records matter to the record of a subframe. -/
theorem subframeAt_congr {c d : Persistent} (h : d.subframe = c.subframe) (k : Nat) : subframeAt d k = subframeAt c k := by
  unfold subframeAt
  rw [h]

/-- R346, R347: the draws write the fine lag and the gain index of each record. -/
theorem subframeAt_writeDraws (p : Params) (d : NoiseDraws) (c : Persistent) {k : Nat} (hk : k < 4) :
    subframeAt (writeDraws p d c) k
      = { subframeAt c k with adCbGain := BitVec.ofNat 8 (d.gains.getD k 0), adCbLag := cell p.cngAdaptiveCbLag k } := by
  have hbase : ∀ k, subframeAt { c with
      cngRandomSeed := d.seed, pitchLag := #v[BitVec.ofNat 8 d.lag0, BitVec.ofNat 8 d.lag1] } k = subframeAt c k :=
    subframeAt_congr rfl
  unfold writeDraws
  interval_cases k <;> simp [subframeAt_setSubframe_other, hbase]

/-- R346, R347: what a comfort-noise frame leaves of each record. -/
theorem NoiseWrote.record {p : Params} {c d : Persistent} (h : NoiseWrote p c d) (k : Fin 4) :
    ∃ gain lag, d.subframe[k] = { c.subframe[k] with adCbGain := gain, adCbLag := lag } := by
  obtain ⟨seed, _, _, _, _, _, _, rfl, _⟩ := h
  have hbase : subframeAt (smoothCurGain p (sidUpdate p c)) k = subframeAt c k := subframeAt_congr (by simp) k
  have hdraws := subframeAt_writeDraws p (noiseDraws seed) (smoothCurGain p (sidUpdate p c)) k.isLt
  rw [hbase, subframeAt_of_fin, subframeAt_of_fin] at hdraws
  exact ⟨_, _, hdraws⟩

/-- R48, R381: `STATUS` after a decode that produced samples. -/
theorem byteAt_status_decoded {s : State} {size : Nat} {bad : Bool} {d : Persistent} {out : Vector I16 240} {past : FrameType}
    (h : d.pastFrameType = past) :
    byteAt { s with core := d, regs := reportDecode size bad out s.regs } 0x003 = statusByte .ok bad past := by
  rw [byteAt_status, ← h]
  rfl

/-! ### The gains -/

/-- R361: a mapped 6-bit gain is stored as it is. -/
theorem toInt_ofInt_sidGainToLspIndex {g : Int} (hlo : 0 ≤ g) (hhi : g ≤ 63) :
    (BitVec.ofInt 32 (sidGainToLspIndex g)).toInt = sidGainToLspIndex g := by
  obtain ⟨hmin, hmax⟩ := sidGainToLspIndex_range hlo hhi
  exact toInt_ofInt_of_fits16 (by omega) (by omega)

/-- R362: with `CNG_GAIN_RESET` the first comfort-noise frame starts at the target. -/
theorem smoothCurGain_of_reset {p : Params} {c : Persistent} (hreset : p.cngGainReset = true) (hpast : c.pastFrameType = .active) :
    (smoothCurGain p c).curGain = c.sidGain := by simp [smoothCurGain, hreset, hpast]

/-- R362: elsewhere the gain moves by an eighth of its distance to the target. -/
theorem smoothCurGain_of_smooth {p : Params} {c : Persistent} (h : p.cngGainReset = false ∨ c.pastFrameType ≠ .active) :
    (smoothCurGain p c).curGain.toInt = (7 * c.curGain.toInt + c.sidGain.toInt) / 8 := by
  have hcur := toInt_range_32 c.curGain
  have hsid := toInt_range_32 c.sidGain
  have hkeep : ¬(p.cngGainReset = true ∧ c.pastFrameType = .active) := by
    rintro ⟨hreset, hpast⟩
    rcases h with h | h
    · exact absurd (h.symm.trans hreset) nofun
    · exact h hpast
  rw [smoothCurGain, if_neg hkeep]
  dsimp only
  rw [toInt_ofInt_32, asr, wrap32_of_fits (by omega) (by omega)]
  norm_num

/-- R362: the smoothing of a comfort-noise frame that started from the gain and the past type of `s`. -/
theorem gainSmoothed_of_fields {s t : State} {c : Persistent} (h : NoiseFields s.params c t.core)
    (hpast : c.pastFrameType = s.core.pastFrameType) (hcur : c.curGain = s.core.curGain) : GainSmoothed s t := by
  rw [GainSmoothed, h.curGain, h.sidGain, ← hpast, ← hcur, ← sidUpdate_pastFrameType s.params c, ← sidUpdate_curGain s.params c]
  exact ⟨smoothCurGain_of_reset, smoothCurGain_of_smooth⟩

/-! ### UNTX completes -/

/-- What UNPACK of an UNTRANSMITTED frame leaves (R172). -/
def untxUnpacked (c : Persistent) : Persistent := { c with curFrameType := .untransmitted }

theorem untxUnpacked_sidLsp (p : Params) (c : Persistent) : (sidUpdate p (untxUnpacked c)).sidLsp = c.sidLsp :=
  sidUpdate_sidLsp_of_ne (c := untxUnpacked c) nofun

/-- R377: after an ACTIVE frame the target is mapped from the estimate. -/
theorem sidUpdate_sidGain_of_estimate {p : Params} {c : Persistent} (htype : c.curFrameType = .untransmitted)
    (hpast : c.pastFrameType = .active) :
    (sidUpdate p c).sidGain = BitVec.ofInt 32 (sidGainToLspIndex (estimateSidGain p c.sidGain.toInt c.curGain.toInt)) := by
  simp [sidUpdate, htype, hpast]

/-- R389: UNTX where it completes. -/
theorem exec_untx_completes (b : BitVec 6) {s : State} (h : ReadyUntx s) :
    ∃ j, decodeNoise s.params (untxUnpacked s.core) = .ok j ∧ exec (.untx b) s = .next { s with
      core := (finish s.params j).1
      regs := reportDecode 1 false (finish s.params j).2 s.regs } := by
  obtain ⟨hlen, hp, hlsp⟩ := h
  rw [← untxUnpacked_sidLsp s.params] at hlsp
  obtain ⟨j, hj, hrun⟩ := runFrame_noise_completes (unpack := unpackUntx) hlen hp nofun hlsp
  exact ⟨j, hj, toOutcome_eq_next.mpr hrun⟩

/-- Settles O10: the fields a comfort-noise frame leaves, for a frame UNPACK made UNTRANSMITTED. -/
theorem untxCompletes : Obligations.UntxCompletes := by
  intro b s hready
  obtain ⟨j, hj, hexec⟩ := exec_untx_completes b hready
  have h := (finish_noiseWrote hj).fields
  generalize (finish s.params j).1 = d, (finish s.params j).2 = out at hexec h
  have hpast : d.pastFrameType = .untransmitted := h.past
  have hsidLsp : d.sidLsp = s.core.sidLsp := h.sidLsp.trans (untxUnpacked_sidLsp _ _)
  refine ⟨_, hexec, hpast, h.cur, h.prevLsp.trans hsidLsp, hsidLsp, fun hpast => ?_, fun hpast => ⟨_, rfl, ?_⟩,
    gainSmoothed_of_fields h rfl rfl, rfl, rfl, (byteAt_status_decoded hpast).trans (by decide)⟩
  · exact h.sidGain.trans (by rw [sidUpdate_of_untransmitted _ (c := untxUnpacked s.core) rfl hpast]; rfl)
  · obtain ⟨hlo, hhi⟩ := estimateSidGain_range s.params s.core.sidGain.toInt s.core.curGain.toInt
    refine ⟨hlo, hhi, ?_⟩
    change d.sidGain.toInt = _
    rw [h.sidGain, sidUpdate_sidGain_of_estimate (c := untxUnpacked s.core) rfl hpast]
    exact toInt_ofInt_sidGainToLspIndex hlo hhi

/-! ### SID completes -/

/-- What UNPACK of a SID frame leaves (R173, R174). -/
def sidUnpacked (f : SidFrame) (c : Persistent) : Persistent :=
  setSubframe { writeLspIndex c f.lspIndex2 f.lspIndex1 f.lspIndex0 with curFrameType := .sid } 0
    fun sf => { sf with ampIndex := f.ampIndex }

theorem remapped_unpackSid (f : SidFrame) (c : Persistent) : remapped (unpackSid f c) = sidUnpacked f c := by
  rcases remapped_cases (unpackSid f c) with ⟨d, hd, _, hr⟩ | ⟨_, hd, _⟩ | ⟨_, hd, _⟩
  · cases hd
    exact hr
  · cases hd
  · cases hd

@[simp] theorem sidUnpacked_curFrameType (f : SidFrame) (c : Persistent) : (sidUnpacked f c).curFrameType = .sid := by
  simp [sidUnpacked]

/-- R174: the 6-bit field goes to the first record. -/
theorem subframeAt_sidUnpacked_zero (f : SidFrame) (c : Persistent) :
    subframeAt (sidUnpacked f c) 0 = { subframeAt c 0 with ampIndex := f.ampIndex } :=
  subframeAt_setSubframe_same _ 0 _ (by decide)

theorem subframeAt_sidUnpacked_other (f : SidFrame) (c : Persistent) {k : Nat} (hk : k ≠ 0) :
    subframeAt (sidUnpacked f c) k = subframeAt c k := subframeAt_setSubframe_other _ 0 k _ hk

/-- R377: the target of a SID frame is mapped from its field. -/
theorem sidUpdate_sidGain_of_sid (p : Params) {c : Persistent} (htype : c.curFrameType = .sid) :
    (sidUpdate p c).sidGain = BitVec.ofInt 32 (sidGainToLspIndex ((subframeAt c 0).ampIndex.toNat : Int)) := by
  simp [sidUpdate, htype]

/-- R200, R377: the reference LSP of a SID frame is dequantized from its indices. -/
theorem sidUpdate_sidLsp_of_sid (p : Params) {c : Persistent} (htype : c.curFrameType = .sid) :
    (sidUpdate p c).sidLsp = lspDequant p.rom c.prevLsp c.lspIndex false := by
  simp [sidUpdate, htype]

/-- R388: SID where it completes. -/
theorem exec_sid_completes {f : SidFrame} {s : State} (h : ReadySid f s) :
    ∃ j, decodeNoise s.params (sidUnpacked f s.core) = .ok j ∧ exec (.sid f) s = .next { s with
      core := (finish s.params j).1
      regs := reportDecode 4 false (finish s.params j).2 s.regs } := by
  obtain ⟨hlen, hp, hlsp⟩ := h
  have hunpack := remapped_unpackSid f s.core
  obtain ⟨j, hj, hrun⟩ := runFrame_noise_completes (unpack := unpackSid f) hlen hp (by simp [hunpack]) (by
    rw [hunpack, sidUpdate_sidLsp_of_sid _ (sidUnpacked_curFrameType f s.core)]
    simpa [sidUnpacked, goodLsp, lspIndices] using hlsp)
  exact ⟨j, hunpack ▸ hj, toOutcome_eq_next.mpr hrun⟩

/-- Settles O11: the fields a comfort-noise frame leaves, for what UNPACK read of a SID frame. -/
theorem sidCompletes : Obligations.SidCompletes := by
  intro f s hready
  obtain ⟨j, hj, hexec⟩ := exec_sid_completes hready
  have hwrote := finish_noiseWrote hj
  generalize (finish s.params j).1 = d, (finish s.params j).2 = out at hexec hwrote
  have h := hwrote.fields
  have htype := sidUnpacked_curFrameType f s.core
  have hfield : (subframeAt (sidUnpacked f s.core) 0).ampIndex = f.ampIndex := by rw [subframeAt_sidUnpacked_zero]
  have hsidLsp : d.sidLsp = goodLsp s f.lspIndex2 f.lspIndex1 f.lspIndex0 := by
    rw [h.sidLsp, sidUpdate_sidLsp_of_sid _ htype]
    simp [sidUnpacked, goodLsp, lspIndices]
  have hpast : d.pastFrameType = .sid := h.past.trans htype
  refine ⟨_, hexec, hpast, h.cur.trans htype, hsidLsp, h.prevLsp, ?_,
    gainSmoothed_of_fields h (by simp [sidUnpacked]) (by simp [sidUnpacked]), ?_, ?_, rfl, rfl,
    (byteAt_status_decoded hpast).trans (by decide)⟩
  · have hrange := f.ampIndex.isLt
    change d.sidGain.toInt = _
    rw [h.sidGain, sidUpdate_sidGain_of_sid _ htype, hfield, toInt_ofInt_sidGainToLspIndex (by omega) (by omega)]
  · exact h.lspIndex.trans (by simp [sidUnpacked, lspIndices])
  · obtain ⟨_, _, hrecord⟩ := hwrote.record 0
    change (subframeAt d (0 : Fin 4)).ampIndex = _
    rw [← hfield, subframeAt_of_fin, hrecord]
    rfl

/-! ### What a comfort-noise frame leaves unchanged -/

/-- What neither UNPACK of a SID or UNTRANSMITTED frame nor its decode writes (R172, R174, R378, R382). -/
structure NoiseKept (c d : Persistent) : Prop where
  rate : d.curRate = c.curRate
  erased : d.erasedFrames = c.erasedFrames
  interpGain : d.interpGain = c.interpGain
  interpIndex : d.interpIndex = c.interpIndex
  seed : d.randomSeed = c.randomSeed
  postfilter : d.postfilter = c.postfilter
  record : ∀ k : Fin 4, d.subframe[k].diracTrain = c.subframe[k].diracTrain ∧ d.subframe[k].gridIndex = c.subframe[k].gridIndex
    ∧ d.subframe[k].pulseSign = c.subframe[k].pulseSign ∧ d.subframe[k].pulsePos = c.subframe[k].pulsePos
    ∧ (k ≠ 0 → d.subframe[k].ampIndex = c.subframe[k].ampIndex)
  formant : c.postfilter = false → d.firMem = c.firMem ∧ d.iirMem = c.iirMem ∧ d.reflectionCoef = c.reflectionCoef
    ∧ d.pfGain = c.pfGain

theorem NoiseKept.refl (c : Persistent) : NoiseKept c c :=
  ⟨rfl, rfl, rfl, rfl, rfl, rfl, fun _ => ⟨rfl, rfl, rfl, rfl, fun _ => rfl⟩, fun _ => ⟨rfl, rfl, rfl, rfl⟩⟩

theorem NoiseKept.trans {a b c : Persistent} (hab : NoiseKept a b) (hbc : NoiseKept b c) : NoiseKept a c where
  rate := hbc.rate.trans hab.rate
  erased := hbc.erased.trans hab.erased
  interpGain := hbc.interpGain.trans hab.interpGain
  interpIndex := hbc.interpIndex.trans hab.interpIndex
  seed := hbc.seed.trans hab.seed
  postfilter := hbc.postfilter.trans hab.postfilter
  record k := by
    obtain ⟨d1, g1, s1, p1, a1⟩ := hab.record k
    obtain ⟨d2, g2, s2, p2, a2⟩ := hbc.record k
    exact ⟨d2.trans d1, g2.trans g1, s2.trans s1, p2.trans p1, fun hk => (a2 hk).trans (a1 hk)⟩
  formant hoff := by
    obtain ⟨f1, i1, r1, p1⟩ := hab.formant hoff
    obtain ⟨f2, i2, r2, p2⟩ := hbc.formant (hab.postfilter.trans hoff)
    exact ⟨f2.trans f1, i2.trans i1, r2.trans r1, p2.trans p1⟩

/-- R378, R382: the decode of a comfort-noise frame. -/
theorem NoiseWrote.kept {p : Params} {c d : Persistent} (h : NoiseWrote p c d) : NoiseKept c d := by
  have hrecord := h.record
  obtain ⟨_, _, _, _, _, _, _, rfl, hoff⟩ := h
  refine ⟨by simp, by simp, by simp, by simp, by simp, by simp, fun k => ?_, hoff⟩
  obtain ⟨_, _, hk⟩ := hrecord k
  rw [hk]
  exact ⟨rfl, rfl, rfl, rfl, fun _ => rfl⟩

/-- R174: UNPACK of a SID frame. -/
theorem sidUnpacked_kept (f : SidFrame) (c : Persistent) : NoiseKept c (sidUnpacked f c) := by
  refine ⟨by simp [sidUnpacked], by simp [sidUnpacked], by simp [sidUnpacked], by simp [sidUnpacked], by simp [sidUnpacked],
    by simp [sidUnpacked], fun k => ?_, fun _ => by simp [sidUnpacked]⟩
  rw [← subframeAt_of_fin, ← subframeAt_of_fin]
  by_cases hk : k = 0
  · subst hk
    rw [Fin.val_zero, subframeAt_sidUnpacked_zero]
    exact ⟨rfl, rfl, rfl, rfl, fun h => absurd rfl h⟩
  · rw [subframeAt_sidUnpacked_other f c (Fin.val_ne_of_ne hk)]
    exact ⟨rfl, rfl, rfl, rfl, fun _ => rfl⟩

/-- R388, R389: what a frame that UNPACK leaves as comfort noise wrote, when it goes on. -/
theorem runFrame_noise_wrote {size : Nat} {unpack : Persistent → Unpacked} {s t : State}
    (htype : (remapped (unpack s.core)).curFrameType ≠ .active) (h : toOutcome (runFrame size unpack s) = .next t) :
    t.core = s.core ∨ NoiseWrote s.params (remapped (unpack s.core)) t.core := by
  rcases runFrame_ok (toOutcome_eq_next.mp h) with ⟨_, rfl⟩ | ⟨j, hj, rfl⟩
  · exact .inl rfl
  · rw [decodeByType_of_noise _ _ htype] at hj
    exact .inr (finish_noiseWrote hj)

/-- Settles O21: neither UNPACK nor the decode writes these fields, and UNPACK of an UNTRANSMITTED frame writes the frame type only. -/
theorem noiseFrameLeavesUnchanged : Obligations.NoiseFrameLeavesUnchanged := by
  intro i s t hi h
  have hkept : NoiseKept s.core t.core
      ∧ ((∃ b, i = .untx b) → t.core.sidLsp = s.core.sidLsp ∧ t.core.lspIndex = s.core.lspIndex
          ∧ t.core.subframe[0].ampIndex = s.core.subframe[0].ampIndex) := by
    rcases hi with ⟨f, rfl⟩ | ⟨b, rfl⟩
    case inl =>
      have hunpack := remapped_unpackSid f s.core
      rcases runFrame_noise_wrote (unpack := unpackSid f) (by simp [hunpack]) h with hsame | hwrote
      · exact ⟨hsame ▸ .refl _, nofun⟩
      · rw [hunpack] at hwrote
        exact ⟨(sidUnpacked_kept f s.core).trans hwrote.kept, nofun⟩
    case inr =>
      rcases runFrame_noise_wrote (unpack := unpackUntx) nofun h with hsame | hwrote
      · rw [hsame]
        exact ⟨.refl _, fun _ => ⟨rfl, rfl, rfl⟩⟩
      · have hfields := hwrote.fields
        obtain ⟨_, _, hrecord⟩ := hwrote.record 0
        have hdecode := hwrote.kept
        refine ⟨{ hdecode with }, fun _ => ⟨hfields.sidLsp.trans (untxUnpacked_sidLsp _ _), hfields.lspIndex, ?_⟩⟩
        exact (congrArg Subframe.ampIndex hrecord :)
  obtain ⟨hkept, huntx⟩ := hkept
  exact ⟨hkept.rate, hkept.erased, hkept.interpGain, hkept.interpIndex, hkept.seed, hkept.postfilter, hkept.record, huntx,
    hkept.formant⟩

end Sys2Proof.Proofs
end

section
/-! Silent comfort noise (47_frame_control.md R389, 46_synthesis_cng.md R350–R356). At gain zero each part of the noise excitation maps zeros to
zeros: the adaptive codebook reads a history of zeros, the amplitude solve has no energy to balance, and no pulse is injected. The common tail
keeps the zeros, and interpolating a vector with itself gives that vector, so that the next frame completes as well. -/

namespace Sys2Proof.Proofs
open Sys2Proof.Machine

/-! ### The adaptive codebook -/

/-- R240: the rounding of a zero sum is no sample. -/
theorem acbOutput_zero {e : ExcBuf} (he : AllZero e) (base lag : Nat) (taps : List Int) : AllZero (acbOutput e base lag taps) :=
  build_zero fun i _ => by
    have hdot : dot 5 (fun k => Machine.residual e base lag (i + k)) (fun k => taps.getD k 0) = 0 :=
      dot_zero _ _ _ fun k _ => rd_of_allZero he _
    rw [hdot]
    decide

theorem adaptiveCodebook_zero {rom : Rom} {rate : Rate} {e : ExcBuf} (he : AllZero e) {base lag : Nat} {sf : Subframe} {v : SubframeVec}
    (h : adaptiveCodebook rom rate e base lag sf = .ok v) : AllZero v := by
  rcases adaptiveCodebook_cases rom rate e base lag sf with ⟨_, hr⟩ | ⟨_, _, ⟨_, _, hr⟩ | ⟨taps, _, hr⟩⟩ <;> rw [hr] at h
  · cases h
  · cases h
  · exact Except.ok.inj h ▸ acbOutput_zero he _ _ _

theorem writeSubframe_zero {e : ExcBuf} (he : AllZero e) (s : Nat) {f : Nat → Int} (hf : ∀ i, f i = 0) : AllZero (writeSubframe e s f) := by
  unfold writeSubframe
  exact build_zero fun x _ => by rw [hf, rd_of_allZero he, ite_self]

theorem noiseSubframe_zero {p : Params} {c : Persistent} {e e' : ExcBuf} (he : AllZero e) {s : Nat} (h : noiseSubframe p c e s = .ok e') :
    AllZero e' := by
  obtain ⟨acb, hacb, h⟩ := bind_eq_ok.mp h
  exact Except.ok.inj h ▸ writeSubframe_zero he s (rd_of_allZero (adaptiveCodebook_zero he hacb))

/-! ### The pair amplitude -/

theorem orAbs_replicate_zero (n : Nat) : orAbs (List.replicate n 0) = 0 := by
  unfold orAbs
  induction n with
  | zero => rfl
  | succ n ih => exact ih

/-- R351: zeros are not shifted. -/
theorem pairShift_zero (n : Nat) : pairShift (List.replicate n 0) = 0 := by simp [pairShift, orAbs_replicate_zero]

theorem scaledPair_zero (n : Nat) : scaledPair (List.replicate n 0) = List.replicate n 0 := by
  simp [scaledPair, pairShift_zero, shiftBy, asr]

theorem getD_replicate_zero (n k : Nat) : (List.replicate n (0 : Int)).getD k 0 = 0 := by
  rw [List.getD_eq_getElem?_getD, List.getElem?_replicate]
  split <;> rfl

/-- R353: the rounding of a zero correlation. -/
theorem pairB0_zero (n : Nat) (pos : List Nat) (sign : List Int) : pairB0 (List.replicate n 0) pos sign = 0 := by
  rw [pairB0, sum_zero fun k _ => by rw [getD_replicate_zero, zero_mul]]
  decide

/-- R354: no energy to balance at gain zero. -/
theorem pairC_zero (n : Nat) : pairC (List.replicate n 0) 0 0 = 0 := by
  unfold pairC
  rw [sum_zero fun k _ => by rw [getD_replicate_zero, zero_mul]]
  decide

/-- R351–R355: the amplitude of zeros at gain zero. -/
theorem rulesAmplitude_zero (n : Nat) (pos : List Nat) (sign : List Int) : rulesAmplitude (List.replicate n 0) pos sign 0 = 0 := by
  unfold rulesAmplitude
  dsimp only
  rw [scaledPair_zero, pairShift_zero, pairB0_zero, pairC_zero]
  decide

/-! ### The noise excitation -/

/-- R356: no pulse of amplitude zero changes a sample. -/
theorem injectPulses_zero {e : ExcBuf} (he : AllZero e) (base : Nat) (pos : List Nat) (sign : List Int) :
    AllZero (injectPulses e base pos sign 0) :=
  loop_invariant (fun e : ExcBuf => AllZero e) 11 e _ he fun k e _ he => wr_zero he _ <| by
    rw [rd_of_allZero he, zero_mul]
    decide

theorem noisePair_zero {p : Params} {c : Persistent} (hrules : p.cngAmplitude = .rules) (hgain : c.curGain = 0) {e e' : ExcBuf}
    (he : AllZero e) {k : Nat} {pos : List Nat} {sign : List Int} (h : noisePair p c e k pos sign = .ok e') : AllZero e' := by
  obtain ⟨e0, h0, h⟩ := bind_eq_ok.mp h
  obtain ⟨e1, h1, h⟩ := bind_eq_ok.mp h
  have hzero := noiseSubframe_zero (noiseSubframe_zero he h0) h1
  have hpair : ((List.range 120).map fun i => rd e1 (146 + 120 * k + i)) = List.replicate 120 0 := by
    simp [rd_of_allZero hzero]
  have hamp : cngAmplitude p (List.replicate 120 0) pos sign c.curGain.toInt = 0 := by
    rw [cngAmplitude, hrules, hgain]
    exact rulesAmplitude_zero 120 pos sign
  replace h := Except.ok.inj h
  rw [hpair, hamp] at h
  exact h ▸ injectPulses_zero hzero _ _ _

/-- R350–R356: comfort noise at gain zero over a history of zeros. -/
theorem generateNoise_zero {p : Params} {c : Persistent} (hrules : p.cngAmplitude = .rules) (hgain : c.curGain = 0)
    (hexc : AllZero c.prevExcitation) {r : Persistent × Vector I16 240} (h : generateNoise p c = .ok r) :
    AllZero r.1.prevExcitation ∧ AllZero r.2 := by
  obtain ⟨e0, e, h0, h1, rfl⟩ := generateNoise_ok h
  have hhead : AllZero (historyHead (writeDraws p (noiseDraws c.cngRandomSeed) c).prevExcitation) :=
    build_zero fun x _ => by rw [writeDraws_prevExcitation, rd_of_allZero hexc, ite_self]
  have hgain' : (writeDraws p (noiseDraws c.cngRandomSeed) c).curGain = 0 := (writeDraws_curGain _ _ _).trans hgain
  have hzero := noisePair_zero hrules hgain' (noisePair_zero hrules hgain' hhead h0) h1
  exact ⟨slice_zero hzero _ _, slice_zero hzero _ _⟩

theorem decodeNoise_zero {p : Params} {c : Persistent} (hrules : p.cngAmplitude = .rules)
    (hgain : (smoothCurGain p (sidUpdate p c)).curGain = 0) (hexc : AllZero c.prevExcitation) {j : SynthesisJob}
    (h : decodeNoise p c = .ok j) : AllZero j.core.prevExcitation ∧ AllZero j.input := by
  obtain ⟨r, lpc, hr, _, rfl⟩ := decodeNoise_ok h
  exact generateNoise_zero hrules hgain (by simpa using hexc) hr

/-! ### The frame and its successor -/

/-- R379–R381: the tail of a decode whose input is zero, over an IIR memory below one unit of the output. -/
theorem finish_zero_of_belowUnit (p : Params) {j : SynthesisJob} (hinput : AllZero j.input) (hsynth : AllZero j.core.synthMem)
    (hfir : AllZero j.core.firMem) (hiir : BelowUnit j.core.iirMem) :
    AllZero (finish p j).2 ∧ AllZero (finish p j).1.synthMem ∧ AllZero (finish p j).1.firMem
      ∧ ((finish p j).1.iirMem = j.core.iirMem ∨ (finish p j).1.iirMem = Vector.replicate 10 32768) := by
  have ha := synthesize_zero hsynth j.lpc hinput
  obtain ⟨hout, hmem, hoff, hon⟩ :=
    outputStage_zero p (c := { j.core with synthMem := slice (synthesize j.core.synthMem j.lpc j.input) 240 10 }) hfir hiir j.lpc ha
  refine ⟨hout, ?_, hmem, ?_⟩
  · rw [finish_synthMem]
    exact slice_zero ha 240 10
  · cases hpf : j.core.postfilter with
    | false => exact .inl (hoff hpf)
    | true => exact .inr (hon hpf)

/-- The IIR memory holds less than one unit of the output (R312, R316). -/
abbrev IirSmall (v : Vector I32 10) : Prop := ∀ k : Fin 10, 0 ≤ v[k].toInt ∧ v[k].toInt ≤ 65535

theorem belowUnit_of_iirSmall {v : Vector I32 10} (h : IirSmall v) : BelowUnit v := by
  intro x
  by_cases hx : x < 10
  · obtain ⟨hlo, hhi⟩ := h ⟨x, hx⟩
    rw [rd_of_lt v hx, asr]
    simp only [Fin.getElem_fin] at hlo hhi
    omega
  · rw [rd_of_ge v (by omega)]
    decide

theorem iirSmall_replicate : IirSmall (Vector.replicate 10 32768) := by decide

/-- R212: between a vector and itself there is only that vector. -/
theorem interpolated_self (v : Vector I16 10) (s : Nat) : interpolated v v s = v :=
  ext_rd fun k hk => by
    obtain ⟨hlo, hhi⟩ := rd_interpolated_between v v s hk
    rw [min_self] at hlo
    rw [max_self] at hhi
    omega

/-- R362: a zero gain stays zero at a zero target. -/
theorem smoothCurGain_zero {p : Params} {c : Persistent} (hpast : c.pastFrameType ≠ .active) (hcur : c.curGain = 0)
    (hsid : c.sidGain = 0) : (smoothCurGain p c).curGain = 0 := by
  apply BitVec.eq_of_toInt_eq
  rw [smoothCurGain_of_smooth (.inr hpast), hcur, hsid]
  rfl

/-- Settles O18: the noise excitation and the tail of the decode keep the zeros, and the frame leaves the conditions it started from. -/
theorem silentNoiseStaysSilent : Obligations.SilentNoiseStaysSilent := by
  rintro b s ⟨hready, hpast, hrules, hsid, hcur, hexc, hsynth, hfir, hiir⟩
  obtain ⟨hlen, hlags, hlsp⟩ := hready
  obtain ⟨j, hj, hexec⟩ := exec_untx_completes b ⟨hlen, hlags, hlsp⟩
  have hkeep : sidUpdate s.params (untxUnpacked s.core) = untxUnpacked s.core :=
    sidUpdate_of_untransmitted _ (c := untxUnpacked s.core) rfl hpast
  have hgain : (smoothCurGain s.params (sidUpdate s.params (untxUnpacked s.core))).curGain = 0 := by
    rw [hkeep]
    exact smoothCurGain_zero (c := untxUnpacked s.core) hpast hcur hsid
  obtain ⟨hexc', hinput⟩ := decodeNoise_zero hrules hgain hexc hj
  obtain ⟨_, _, _, hjob⟩ := decodeNoise_core hj
  rw [hkeep] at hjob
  have hjsynth : j.core.synthMem = s.core.synthMem := by simp [hjob, untxUnpacked]
  have hjfir : j.core.firMem = s.core.firMem := by simp [hjob, untxUnpacked]
  have hjiir : j.core.iirMem = s.core.iirMem := by simp [hjob, untxUnpacked]
  obtain ⟨hout, hsynth', hfir', hiir'⟩ := finish_zero_of_belowUnit s.params hinput (hjsynth ▸ hsynth) (hjfir ▸ hfir)
    (hjiir ▸ belowUnit_of_iirSmall hiir)
  obtain ⟨_, _, _, _, _, hfin, _⟩ := finish_core s.params j
  have hexc'' : AllZero (finish s.params j).1.prevExcitation := by rw [hfin]; exact hexc'
  have h := (finish_noiseWrote hj).fields
  rw [hjiir] at hiir'
  generalize (finish s.params j).1 = d, (finish s.params j).2 = out at *
  have hsidLsp : d.sidLsp = s.core.sidLsp := h.sidLsp.trans (untxUnpacked_sidLsp _ _)
  have hlsp' : InterpInTable s.params.rom.cosTab d.sidLsp d.prevLsp := by
    intro k
    rw [h.prevLsp, hsidLsp, interpolated_self]
    exact hlsp 3
  have hpast' : d.pastFrameType = .untransmitted := h.past
  have hiirSmall : IirSmall d.iirMem := by
    rcases hiir' with hsame | hround
    · rwa [hsame]
    · rw [hround]
      exact iirSmall_replicate
  refine ⟨_, hexec, hout, ⟨hlen, hlags, hlsp'⟩, by rw [hpast']; exact nofun, hrules, ?_, h.curGain.trans hgain, hexc'', hsynth', hfir',
    hiirSmall⟩
  rw [h.sidGain, hkeep]
  exact hsid

end Sys2Proof.Proofs
end

section
/-! What an ACTIVE frame writes of `S` (47_frame_control.md R373–R376, 44_concealment.md R274–R279). A FRAME63 or FRAME53 takes one of three
paths after UNPACK: a good ACTIVE frame, an erased one, or comfort noise. Each path's decode is one equation for the state it leaves, and the
fields that a path leaves unchanged are read off. -/

namespace Sys2Proof.Proofs
open Sys2Proof.Machine

/-! ### What the two ACTIVE decodes write -/

theorem romRead_ok {w n : Nat} {table : Vector (BitVec w) n} {i : Nat} {x : Int} (h : romRead table i = .ok x) : x = rd table i := by
  by_cases hi : i < n
  · rw [romRead_of_lt _ hi] at h
    exact (Except.ok.inj h).symm
  · rw [romRead_of_ge _ (by omega)] at h
    cases h

/-- R274: the gain that a good ACTIVE frame leaves in the gain memory. -/
def memoryGain (p : Params) (c : Persistent) : Int :=
  rd p.rom.fixedCbGain (((subframeAt c 2).ampIndex.toNat + (subframeAt c 3).ampIndex.toNat) / 2)

theorem memoryGain_congr (p : Params) {c d : Persistent} (h : d.subframe = c.subframe) : memoryGain p d = memoryGain p c := by
  rw [memoryGain, memoryGain, subframeAt_congr h, subframeAt_congr h]

/-- `d` is what a good ACTIVE decode of `c` hands to the common tail (R373–R375). -/
def GoodWrote (p : Params) (c d : Persistent) : Prop :=
  ∃ idx sid cur exc, d = { c with
    erasedFrames := 0, prevLsp := lspDequant p.rom c.prevLsp c.lspIndex false, interpGain := BitVec.ofInt 32 (memoryGain p c)
    interpIndex := idx, sidGain := sid, curGain := cur, prevExcitation := exc, cngRandomSeed := 12345 }

/-- R274, R375: the state of a good ACTIVE frame is the classifier's, with the new gain memory and history. -/
theorem goodActive_state {p : Params} {c : Persistent} {r : Persistent × Vector I16 240} (h : goodActive p c = .ok r) :
    ∃ e, r.1 = { classify { c with interpGain := BitVec.ofInt 32 (memoryGain p c) } (scaleVector e) (scaleShift e) with
      prevExcitation := slice e 240 146 } := by
  obtain ⟨d, hd, h⟩ := bind_eq_ok.mp h
  obtain ⟨g, hg, hd⟩ := bind_eq_ok.mp hd
  obtain ⟨e, _, h⟩ := bind_eq_ok.mp h
  cases hd
  cases h
  exact ⟨e, by rw [romRead_ok hg, memoryGain]⟩

theorem decodeActive_goodWrote {p : Params} {c : Persistent} {j : SynthesisJob} (h : decodeActive p false c = .ok j) :
    GoodWrote p c j.core := by
  obtain ⟨lpc, r, _, hr, rfl⟩ := decodeActive_ok h
  rw [activeExcitation, if_pos (by simp)] at hr
  obtain ⟨e, hr⟩ := goodActive_state hr
  have hlsp : activeLsp p (countErasure false c) false = lspDequant p.rom c.prevLsp c.lspIndex false := rfl
  rw [memoryGain_congr p (c := c) (by simp), hlsp] at hr
  rw [GoodWrote, hr]
  generalize lspDequant p.rom c.prevLsp c.lspIndex false = lsp, memoryGain p c = g
  exact ⟨BitVec.ofInt 32 (interpIndexOf (scaleVector e) (lagOf c 2)), BitVec.ofInt 32 (excEnergy (scaleVector e)),
    BitVec.ofInt 32 (scaleShift e), slice e 240 146, rfl⟩

/-- `d` is what an erased ACTIVE decode of `c` hands to the common tail (R373, R376–R279): the formant memories are written by the mute
only, which takes three erasures. -/
def ErasedWrote (p : Params) (c d : Persistent) : Prop :=
  ∃ exc seed synth fir iir, d = { c with
      erasedFrames := min (c.erasedFrames + 1) 3, prevLsp := lspDequant p.rom c.prevLsp (Vector.replicate 3 0) true
      interpGain := BitVec.ofInt 32 (asr (3 * c.interpGain.toInt + 2) 2), prevExcitation := exc, randomSeed := seed
      synthMem := synth, firMem := fir, iirMem := iir, cngRandomSeed := 12345 }
    ∧ (c.erasedFrames < 2 → fir = c.firMem ∧ iir = c.iirMem)

/-- R276–R279: an erased frame mutes where three erasures are counted, and hands its residual off elsewhere. -/
theorem erasedActive_cases {c : Persistent} {r : Persistent × Vector I16 240} (h : erasedActive c = .ok r) :
    (c.erasedFrames = 3 ∧ r.1 = mute (decayGain c))
      ∨ (c.erasedFrames ≠ 3 ∧ ∃ seed out, r.1 = handOff { decayGain c with randomSeed := seed } out) := by
  unfold erasedActive at h
  dsimp only at h
  rw [decayGain_erasedFrames] at h
  split at h
  next hthree =>
    cases h
    exact .inl ⟨hthree, rfl⟩
  next hless =>
    refine .inr ⟨hless, ?_⟩
    rcases concealResidual_cases (decayGain c) with ⟨_, hr⟩ | ⟨_, hr⟩ | ⟨_, _, hr⟩ <;> rw [hr] at h
    · cases h
      exact ⟨_, _, rfl⟩
    · cases h
    · cases h
      exact ⟨_, _, rfl⟩

theorem decodeActive_erasedWrote {p : Params} {c : Persistent} {j : SynthesisJob} (h : decodeActive p true c = .ok j) :
    ErasedWrote p c j.core := by
  obtain ⟨lpc, r, _, hr, rfl⟩ := decodeActive_ok h
  rw [activeExcitation, if_neg (by simp)] at hr
  have hlsp : activeLsp p (countErasure true c) true = lspDequant p.rom c.prevLsp (Vector.replicate 3 0) true := rfl
  rw [hlsp] at hr
  rw [ErasedWrote]
  generalize lspDequant p.rom c.prevLsp (Vector.replicate 3 0) true = lsp at hr ⊢
  rcases erasedActive_cases hr with ⟨hthree, hr⟩ | ⟨_, seed, out, hr⟩
  · rw [hr]
    refine ⟨Vector.replicate 146 0, c.randomSeed, Vector.replicate 10 0, Vector.replicate 10 0, Vector.replicate 10 0, rfl,
      fun hless => ?_⟩
    rw [countErasure_erasedFrames, if_pos rfl] at hthree
    omega
  · rw [hr]
    exact ⟨slice out 94 146, seed, c.synthMem, c.firMem, c.iirMem, rfl, fun _ => ⟨rfl, rfl⟩⟩

/-! ### The three paths of an ACTIVE frame -/

/-- R175, R176: a good FRAME63 or FRAME53 is ACTIVE. -/
theorem unpackHeader_active (c : Persistent) (rate : Rate) (hd : ActiveHeader) :
    Ends (fun d => d.curFrameType = .active) (fun _ => True) (unpackHeader c rate hd) := by
  refine unpackHeader_ends (fun _ _ _ _ hc => by simpa using hc) (fun _ _ => trivial) ?_
  unfold unpackPitch
  dsimp only
  split
  · exact ends_error trivial
  · split
    · exact ends_error trivial
    · exact ends_ok (by simp)

/-- R386, R387: what UNPACK of an ACTIVE frame does: it fails exactly on a forbidden code, and its success is an ACTIVE frame. -/
structure ActiveUnpack (i : Instr) (unpack : Persistent → Unpacked) : Prop where
  frame : IsFrame i.size unpack
  exec : ∀ s, exec i s = toOutcome (runFrame i.size unpack s)
  bad : ∀ c, badFrame (unpack c) = !i.wellFormed
  active : ∀ c d, unpack c = .ok d → d.curFrameType = .active

theorem activeUnpack_frame63 (f : Frame63) : ActiveUnpack (.frame63 f) (unpack63 f) where
  frame := .frame63 f
  exec _ := rfl
  bad := badFrame_unpack63 f
  active c d h := by
    obtain ⟨c0, h0, h⟩ := bind_eq_ok.mp h
    cases h
    simpa [writePulse] using (unpackHeader_active c .r6300 f.header).1 c0 h0

theorem activeUnpack_frame53 (f : Frame53) : ActiveUnpack (.frame53 f) (unpack53 f) where
  frame := .frame53 f
  exec _ := rfl
  bad := badFrame_unpack53 f
  active c d h := by
    obtain ⟨c0, h0, h⟩ := bind_eq_ok.mp h
    cases h
    simpa [writePulse] using (unpackHeader_active c .r5300 f.header).1 c0 h0

/-- R186, R370: the path of a FRAME63 or FRAME53 is chosen by its codes and by the type of the frame before it. -/
theorem activeFrame_paths {i : Instr} {unpack : Persistent → Unpacked} (hi : ActiveUnpack i unpack) {p : Params} {c : Persistent}
    {j : SynthesisJob} (h : decodeByType p (badFrame (unpack c)) (remapped (unpack c)) = .ok j) :
    (i.wellFormed = true ∧ GoodWrote p (remapped (unpack c)) j.core)
      ∨ (i.wellFormed = false ∧ c.pastFrameType = .active ∧ ErasedWrote p (remapped (unpack c)) j.core)
      ∨ (i.wellFormed = false ∧ c.pastFrameType ≠ .active ∧ (remapped (unpack c)).curFrameType = .untransmitted
        ∧ decodeNoise p (remapped (unpack c)) = .ok j) := by
  obtain ⟨_, _, _, _, _, hwrote⟩ := remapped_wrote hi.frame c
  have hpast : (remapped (unpack c)).pastFrameType = c.pastFrameType := by rw [hwrote]
  have hbad := hi.bad c
  cases hwf : i.wellFormed with
  | true =>
    rw [hwf] at hbad
    have hactive : (remapped (unpack c)).curFrameType = .active := by
      rcases remapped_cases (unpack c) with ⟨d, hd, _, hr⟩ | ⟨_, _, hfails, _⟩ | ⟨_, _, hfails, _⟩
      · rw [hr]
        exact hi.active c d hd
      · exact absurd (hfails.symm.trans hbad) nofun
      · exact absurd (hfails.symm.trans hbad) nofun
    rw [hbad, decodeByType, hactive] at h
    exact .inl ⟨rfl, decodeActive_goodWrote h⟩
  | false =>
    rw [hwf] at hbad
    by_cases hprev : c.pastFrameType = .active
    · rw [hbad, decodeByType, remapped_active hbad (hpast.trans hprev)] at h
      exact .inr (.inl ⟨rfl, hprev, decodeActive_erasedWrote h⟩)
    · have htype := remapped_untransmitted hbad (hpast ▸ hprev)
      rw [hbad, decodeByType, htype] at h
      exact .inr (.inr ⟨rfl, hprev, htype, h⟩)

/-! ### What an ACTIVE frame leaves unchanged -/

/-- What a FRAME63 or FRAME53 leaves of `c`, with or without a forbidden code (R374–R376, R382, R276). -/
structure ActiveKept (wellFormed : Bool) (c d : Persistent) : Prop where
  sidLsp : d.sidLsp = c.sidLsp
  postfilter : d.postfilter = c.postfilter
  good : wellFormed = true → d.randomSeed = c.randomSeed
  bad : wellFormed = false → d.sidGain = c.sidGain ∧ d.interpIndex = c.interpIndex
  erased : wellFormed = false → c.pastFrameType = .active → d.curGain = c.curGain
  noise : wellFormed = false → c.pastFrameType ≠ .active →
    d.erasedFrames = c.erasedFrames ∧ d.interpGain = c.interpGain ∧ d.randomSeed = c.randomSeed
  memories : c.postfilter = false → (wellFormed = true ∨ c.pastFrameType ≠ .active ∨ c.erasedFrames < 2) →
    d.firMem = c.firMem ∧ d.iirMem = c.iirMem
  gains : c.postfilter = false → d.reflectionCoef = c.reflectionCoef ∧ d.pfGain = c.pfGain

theorem ActiveKept.refl (wellFormed : Bool) (c : Persistent) : ActiveKept wellFormed c c :=
  ⟨rfl, rfl, fun _ => rfl, fun _ => ⟨rfl, rfl⟩, fun _ _ => rfl, fun _ _ => ⟨rfl, rfl, rfl⟩, fun _ _ => ⟨rfl, rfl⟩, fun _ => ⟨rfl, rfl⟩⟩

/-- R375: a good frame. -/
theorem goodWrote_kept {p : Params} {c u : Persistent} {j : SynthesisJob} (hu : UnpackWrote c u) (h : GoodWrote p u j.core) :
    ActiveKept true c (finish p j).1 := by
  obtain ⟨_, _, _, _, _, rfl⟩ := hu
  obtain ⟨_, _, _, _, hj⟩ := h
  obtain ⟨_, _, _, _, _, hfin, hoff⟩ := finish_core_formant p j
  rw [hj] at hfin hoff
  rw [hfin]
  refine ⟨rfl, rfl, fun _ => rfl, nofun, nofun, nofun, fun hpf _ => ?_, fun hpf => ?_⟩
  · exact ⟨(hoff hpf).1, (hoff hpf).2.1⟩
  · exact (hoff hpf).2.2

/-- R376: an erased frame. -/
theorem erasedWrote_kept {p : Params} {c u : Persistent} {j : SynthesisJob} (hu : UnpackWrote c u) (hpast : c.pastFrameType = .active)
    (h : ErasedWrote p u j.core) : ActiveKept false c (finish p j).1 := by
  obtain ⟨_, _, _, _, _, rfl⟩ := hu
  obtain ⟨_, _, _, _, _, hj, hmute⟩ := h
  obtain ⟨_, _, _, _, _, hfin, hoff⟩ := finish_core_formant p j
  rw [hj] at hfin hoff
  rw [hfin]
  refine ⟨rfl, rfl, nofun, fun _ => ⟨rfl, rfl⟩, fun _ _ => rfl, fun _ hother => absurd hpast hother, fun hpf hcase => ?_, fun hpf => ?_⟩
  · obtain ⟨hfir, hiir, _⟩ := hoff hpf
    rcases hcase with hwf | hother | hless
    · cases hwf
    · exact absurd hpast hother
    · exact ⟨hfir.trans (hmute hless).1, hiir.trans (hmute hless).2⟩
  · exact (hoff hpf).2.2

/-- R186, R378: a bad frame that is decoded as comfort noise. -/
theorem noise_kept {p : Params} {c u : Persistent} {j : SynthesisJob} (hu : UnpackWrote c u) (hpast : c.pastFrameType ≠ .active)
    (htype : u.curFrameType = .untransmitted) (h : decodeNoise p u = .ok j) : ActiveKept false c (finish p j).1 := by
  have hkept := (finish_noiseWrote h).kept
  have hfields := (finish_noiseWrote h).fields
  generalize (finish p j).1 = d at hkept hfields
  obtain ⟨ty, rate, lags, sub, idx, hu⟩ := hu
  have hkeep := sidUpdate_of_untransmitted p htype (by rwa [hu])
  have hsidLsp := hfields.sidLsp
  have hsidGain := hfields.sidGain
  rw [hkeep] at hsidLsp hsidGain
  subst hu
  exact {
    sidLsp := hsidLsp
    postfilter := hkept.postfilter
    good := nofun
    bad := fun _ => ⟨hsidGain, hkept.interpIndex⟩
    erased := fun _ hactive => absurd hactive hpast
    noise := fun _ _ => ⟨hkept.erased, hkept.interpGain, hkept.seed⟩
    memories := fun hpf _ => ⟨(hkept.formant hpf).1, (hkept.formant hpf).2.1⟩
    gains := fun hpf => (hkept.formant hpf).2.2 }

/-- R382: the three paths of a frame, and a frame that is short. -/
theorem activeFrame_kept {i : Instr} {unpack : Persistent → Unpacked} (hi : ActiveUnpack i unpack) {s t : State}
    (h : exec i s = .next t) : ActiveKept i.wellFormed s.core t.core := by
  rw [hi.exec] at h
  rcases runFrame_ok (toOutcome_eq_next.mp h) with ⟨_, rfl⟩ | ⟨j, hj, rfl⟩
  · exact .refl _ _
  · have hu := remapped_wrote hi.frame s.core
    rcases activeFrame_paths hi hj with ⟨hwf, hgood⟩ | ⟨hwf, hpast, herased⟩ | ⟨hwf, hpast, htype, hnoise⟩ <;> rw [hwf]
    · exact goodWrote_kept hu hgood
    · exact erasedWrote_kept hu hpast herased
    · exact noise_kept hu hpast htype hnoise

/-- Settles O22: UNPACK writes none of these fields, and each path of the decode leaves its own. -/
theorem activeFrameLeavesUnchanged : Obligations.ActiveFrameLeavesUnchanged := by
  intro i s t hi h
  have hkept : ActiveKept i.wellFormed s.core t.core := by
    rcases hi with ⟨f, rfl⟩ | ⟨f, rfl⟩
    · exact activeFrame_kept (activeUnpack_frame63 f) h
    · exact activeFrame_kept (activeUnpack_frame53 f) h
  exact ⟨hkept.sidLsp, hkept.postfilter, hkept.good, hkept.bad, hkept.erased, hkept.noise, hkept.memories, hkept.gains⟩

/-! ### A concealed frame completes -/

theorem completes_of_faultsOnly {α : Type} {x : Except Fault α} (h : FaultsOnly (fun _ => False) x) : Completes x := by
  cases x with
  | ok a => exact completes_ok a
  | error e => exact (h e rfl).elim

/-- R376: an erased frame with its lag inside the history and its LSP values inside the cosine table. -/
theorem decodeActive_erased_completes {p : Params} {c : Persistent}
    (hindex : 0 ≤ c.interpIndex.toInt ∧ c.interpIndex.toInt ≤ 146)
    (hlsp : InterpInTable p.rom.cosTab (lspDequant p.rom c.prevLsp (Vector.replicate 3 0) true) c.prevLsp) :
    Completes (decodeActive p true c) := by
  refine completes_bind (lspInterp_completes hlsp) fun lpc _ => completes_bind ?_ fun _ _ => completes_ok _
  rw [activeExcitation, if_neg (by simp)]
  exact completes_of_faultsOnly (erasedActive_faultsOnly hindex)

/-- R275: the decayed gain fits 32 bits. -/
theorem toInt_decayed (g : I32) : (BitVec.ofInt 32 (asr (3 * g.toInt + 2) 2)).toInt = (3 * g.toInt + 2) / 4 := by
  have hrange := toInt_range_32 g
  rw [toInt_ofInt_32, asr, wrap32_of_fits (by omega) (by omega)]
  norm_num

/-- Settles O15: UNPACK fails, the remap makes the frame ACTIVE, and the erased decode completes on the fields UNPACK left as they
were. -/
theorem badFrameAfterActiveIsConcealed : Obligations.BadFrameAfterActiveIsConcealed := by
  rintro i s ⟨hill, hlen⟩ ⟨hpast, hlo, hhi, hlsp⟩
  obtain ⟨unpack, hf, hexec, hfails⟩ := exec_of_forbidden hill
  have hbad := hfails s.core
  obtain ⟨ty, rate, lags, sub, idx, hwrote⟩ := remapped_wrote hf s.core
  have hcur := remapped_active hbad (by rw [hwrote]; exact hpast)
  obtain ⟨j, hj⟩ : Completes (decodeActive s.params true (remapped (unpack s.core))) :=
    decodeActive_erased_completes (by rw [hwrote]; exact ⟨hlo, hhi⟩) (by rw [hwrote]; exact hlsp)
  have hrun := runFrame_of_decodeByType hlen (by rw [hbad, decodeByType, hcur]; exact hj)
  obtain ⟨_, _, _, _, _, hcore, _⟩ := decodeActive_erasedWrote hj
  obtain ⟨_, _, _, _, _, hfin, _⟩ := finish_core_formant s.params j
  have hactive : (finish s.params j).1.pastFrameType = .active := by
    rw [hfin, hcore]
    exact hcur
  refine ⟨_, (hexec s).trans (toOutcome_eq_next.mpr hrun), hactive, ?_⟩
  rw [hbad, hfin, hcore, hwrote]
  refine ⟨rfl, by rw [badLsp], rfl, toInt_decayed _, rfl, rfl, rfl, rfl, ?_, ?_⟩
  · exact Nat.mod_eq_of_lt (Nat.lt_of_le_of_lt hf.size_le (by decide))
  · rw [hwrote] at hcur
    exact (byteAt_status_decoded hcur).trans (by decide)

end Sys2Proof.Proofs
end

section
/-! Good ACTIVE frames (41_unpack.md R173–R182, 43_excitation.md R230–R241, 47_frame_control.md R373–R375, R386, R387). UNPACK is shown to
leave the records that the frame's fields say; every table index and lag of such a record is in range, so that the decode completes; and the
decode writes no record. -/

namespace Sys2Proof.Proofs
open Sys2Proof.Machine

/-! ### Gain words -/

/-- R178: the record with what a gain word decodes to. -/
def writeGain (g : GainOperand) (sf : Subframe) : Subframe :=
  { sf with diracTrain := g.diracTrain, adCbGain := BitVec.ofNat 8 g.gain, ampIndex := BitVec.ofNat 6 g.amp }

/-- R108, R175: the gain word `w` of a subframe whose pair has the pitch code `code`. -/
def codedGain (rate : Rate) (code : BitVec 7) (w : BitVec 12) : GainOperand := gainOperand rate (pitchLagOf code).toNat w

theorem gainInTable_iff {rate : Rate} {code : BitVec 7} {w : BitVec 12} :
    gainInTable rate code w = true ↔ (codedGain rate code w).gain < (codedGain rate code w).tableLen := decide_eq_true_iff

/-- R108: the fields of a gain operand in range are stored as they are. -/
theorem writeGain_toNat {rate : Rate} {code : BitVec 7} {w : BitVec 12} (h : gainInTable rate code w = true) (sf : Subframe) :
    (writeGain (codedGain rate code w) sf).adCbGain.toNat = (codedGain rate code w).gain
      ∧ (writeGain (codedGain rate code w) sf).ampIndex.toNat = (codedGain rate code w).amp := by
  have hlen := gainOperand_tableLen_le rate (pitchLagOf code).toNat w
  have hgain := gainInTable_iff.mp h
  obtain ⟨_, _, hamp⟩ := gainWordDecodes rate (pitchLagOf code).toNat w
  unfold codedGain at *
  constructor
  · exact toNat_ofNat_byte (by omega)
  · exact Nat.mod_eq_of_lt (by omega)

/-- R108: the record holds the gain word that was written. -/
theorem gainHeld_writeGain {rate : Rate} {code : BitVec 7} {w : BitVec 12} (h : gainInTable rate code w = true) (sf : Subframe) :
    GainHeld (rate = .r6300 && code.toNat + 18 < 58) w (writeGain (codedGain rate code w) sf) := by
  obtain ⟨hgain, hampw⟩ := writeGain_toNat h sf
  obtain ⟨hsplit, hwhole, hamp⟩ := gainWordDecodes rate (pitchLagOf code).toNat w
  have hlag : (pitchLagOf code).toNat = code.toNat + 18 := pitchLagOf_toNat code
  have hiff : (decide (rate = .r6300) && decide (code.toNat + 18 < 58)) = true ↔ rate = .r6300 ∧ (pitchLagOf code).toNat < 58 := by
    rw [hlag]
    simp
  rw [GainHeld, hgain, hampw]
  refine ⟨hamp, fun hs => ?_, fun hs => ?_⟩
  · obtain ⟨_, hdirac, hsum⟩ := hsplit (hiff.mp hs)
    exact ⟨hdirac, hsum⟩
  · obtain ⟨_, hdirac, hsum⟩ := hwhole fun hc => by rw [hiff.mpr hc] at hs; cases hs
    exact ⟨hdirac, hsum⟩

/-! ### What UNPACK of a header leaves -/

theorem setSubframe_setSubframe (c : Persistent) (i : Nat) (f g : Subframe → Subframe) :
    setSubframe (setSubframe c i f) i g = setSubframe c i fun sf => g (f sf) := by
  unfold setSubframe
  split <;> simp

/-- R175, R178: a gain word that passes its check is written to its record. -/
theorem unpackGain_ok {rate : Rate} {hd : ActiveHeader} {c d : Persistent} {i : Nat} {code : BitVec 7} {w : BitVec 12}
    (hc : GainChecksRead rate hd c) (hlag : cell #v[pitchLagOf hd.pitchCode0, pitchLagOf hd.pitchCode1] (i / 2) = pitchLagOf code)
    (h : unpackGain c i w = .ok d) :
    gainInTable rate code w = true ∧ d = setSubframe c i (writeGain (codedGain rate code w)) := by
  obtain ⟨hrate, hlags⟩ := hc
  have hoperand : gainOperand c.curRate (lagOf c i) w = codedGain rate code w := by rw [lagOf, hlags, hlag, hrate, codedGain]
  rcases unpackGain_cases c i w with ⟨_, hr⟩ | ⟨hlt, hr⟩ <;> rw [hr] at h
  · cases h
  · rw [hoperand] at hlt h
    refine ⟨gainInTable_iff.mpr hlt, ?_⟩
    rw [← Except.ok.inj h, setSubframe_setSubframe]
    rfl

/-- The record that a header leaves of `sf` (R175, R176, R178, R179). -/
def headerRecord (rate : Rate) (code : BitVec 7) (w : BitVec 12) (lag : BitVec 2) (grid : BitVec 1) (sf : Subframe) : Subframe :=
  { writeGain (codedGain rate code w) sf with adCbLag := lag, gridIndex := grid }

/-- What UNPACK of a header leaves where no check fails (R173, R175, R176, R178, R179). -/
structure HeaderRead (rate : Rate) (hd : ActiveHeader) (c d : Persistent) : Prop where
  codes : pitchCodeOk hd.pitchCode0 = true ∧ pitchCodeOk hd.pitchCode1 = true
  gains : gainInTable rate hd.pitchCode0 hd.gainWord0 = true ∧ gainInTable rate hd.pitchCode0 hd.gainWord1 = true
    ∧ gainInTable rate hd.pitchCode1 hd.gainWord2 = true ∧ gainInTable rate hd.pitchCode1 hd.gainWord3 = true
  curRate : d.curRate = rate
  lspIndex : d.lspIndex = lspIndices hd.lspIndex2 hd.lspIndex1 hd.lspIndex0
  pitchLag : d.pitchLag = #v[pitchLagOf hd.pitchCode0, pitchLagOf hd.pitchCode1]
  record0 : subframeAt d 0 = headerRecord rate hd.pitchCode0 hd.gainWord0 1 hd.grid0 (subframeAt c 0)
  record1 : subframeAt d 1 = headerRecord rate hd.pitchCode0 hd.gainWord1 hd.adCbLag1 hd.grid1 (subframeAt c 1)
  record2 : subframeAt d 2 = headerRecord rate hd.pitchCode1 hd.gainWord2 1 hd.grid2 (subframeAt c 2)
  record3 : subframeAt d 3 = headerRecord rate hd.pitchCode1 hd.gainWord3 hd.adCbLag3 hd.grid3 (subframeAt c 3)

/-- R175, R176: two legal pitch codes write the lags and every fine lag. -/
theorem unpackPitch_ok {c d : Persistent} {hd : ActiveHeader} (h : unpackPitch c hd = .ok d) :
    (pitchCodeOk hd.pitchCode0 = true ∧ pitchCodeOk hd.pitchCode1 = true) ∧ d.lspIndex = c.lspIndex
      ∧ subframeAt d 0 = { subframeAt c 0 with adCbLag := 1 } ∧ subframeAt d 1 = { subframeAt c 1 with adCbLag := hd.adCbLag1 }
      ∧ subframeAt d 2 = { subframeAt c 2 with adCbLag := 1 } ∧ subframeAt d 3 = { subframeAt c 3 with adCbLag := hd.adCbLag3 } := by
  have hlags (c : Persistent) (lags : Vector (BitVec 8) 2) (k : Nat) : subframeAt { c with pitchLag := lags } k = subframeAt c k :=
    subframeAt_congr rfl k
  unfold unpackPitch at h
  rw [pitchForbidden_eq, pitchForbidden_eq] at h
  dsimp only at h
  split at h
  · cases h
  · split at h
    · cases h
    next h0 h1 =>
      cases h
      refine ⟨⟨by simpa using h0, by simpa using h1⟩, by simp, ?_, ?_, ?_, ?_⟩ <;>
        simp (disch := decide) only [subframeAt_setSubframe_same, subframeAt_setSubframe_other, hlags]

theorem gainChecksRead_setSubframe {rate : Rate} {hd : ActiveHeader} {c : Persistent} (h : GainChecksRead rate hd c) (i : Nat)
    (g : Subframe → Subframe) : GainChecksRead rate hd (setSubframe c i g) := by simpa [GainChecksRead] using h

/-- R173–R179: UNPACK of a header that succeeds has read every field. -/
theorem unpackHeader_ok {c d : Persistent} {rate : Rate} {hd : ActiveHeader} (h : unpackHeader c rate hd = .ok d) :
    HeaderRead rate hd c d := by
  obtain ⟨c0, h0, h⟩ := bind_eq_ok.mp h
  obtain ⟨c1, h1, h⟩ := bind_eq_ok.mp h
  obtain ⟨c2, h2, h⟩ := bind_eq_ok.mp h
  obtain ⟨c3, h3, h⟩ := bind_eq_ok.mp h
  obtain ⟨c4, h4, h⟩ := bind_eq_ok.mp h
  have checks0 : GainChecksRead rate hd c0 := (unpackPitch_gainChecksRead _ hd).1 c0 h0
  obtain ⟨gain0, rfl⟩ := unpackGain_ok (code := hd.pitchCode0) checks0 rfl h1
  have checks1 := gainChecksRead_setSubframe checks0 0 (writeGain (codedGain rate hd.pitchCode0 hd.gainWord0))
  obtain ⟨gain1, rfl⟩ := unpackGain_ok (code := hd.pitchCode0) checks1 rfl h2
  have checks2 := gainChecksRead_setSubframe checks1 1 (writeGain (codedGain rate hd.pitchCode0 hd.gainWord1))
  obtain ⟨gain2, rfl⟩ := unpackGain_ok (code := hd.pitchCode1) checks2 rfl h3
  have checks3 := gainChecksRead_setSubframe checks2 2 (writeGain (codedGain rate hd.pitchCode1 hd.gainWord2))
  obtain ⟨gain3, rfl⟩ := unpackGain_ok (code := hd.pitchCode1) checks3 rfl h4
  obtain ⟨hcodes, hindex, record0, record1, record2, record3⟩ := unpackPitch_ok h0
  have hbase (k : Nat) : subframeAt
      { writeLspIndex c hd.lspIndex2 hd.lspIndex1 hd.lspIndex0 with curRate := rate, curFrameType := .active } k = subframeAt c k :=
    subframeAt_congr (by simp) k
  rw [hbase] at record0 record1 record2 record3
  rw [← Except.ok.inj h]
  exact {
    codes := hcodes
    gains := ⟨gain0, gain1, gain2, gain3⟩
    curRate := by simpa using checks0.1
    lspIndex := by simp [hindex, lspIndices]
    pitchLag := by simpa using checks0.2
    record0 := by simp (disch := decide) only [subframeAt_setSubframe_same, subframeAt_setSubframe_other, record0, headerRecord, writeGain]
    record1 := by simp (disch := decide) only [subframeAt_setSubframe_same, subframeAt_setSubframe_other, record1, headerRecord, writeGain]
    record2 := by simp (disch := decide) only [subframeAt_setSubframe_same, subframeAt_setSubframe_other, record2, headerRecord, writeGain]
    record3 := by simp (disch := decide) only [subframeAt_setSubframe_same, subframeAt_setSubframe_other, record3, headerRecord, writeGain] }

/-! ### Records in range -/

/-- The table indices and lags of a record are in range (R178, R237–R239). -/
structure RecordOk (rom : Rom) (rate : Rate) (lag : Nat) (sf : Subframe) : Prop where
  lagRange : 1 ≤ acbLag lag sf ∧ acbLag lag sf ≤ 144
  gain : sf.adCbGain.toNat < if rate = .r6300 ∧ lag < subframeLen - 2 then 85 else 170
  amp : sf.ampIndex.toNat < 24
  harmonic : rate = .r5300 → 1 ≤ harmonicLag (rd rom.pitchContrib (2 * sf.adCbGain.toNat)) lag sf

theorem codedGain_tableLen (rate : Rate) (code : BitVec 7) (w : BitVec 12) :
    (codedGain rate code w).tableLen = if rate = .r6300 ∧ (pitchLagOf code).toNat < subframeLen - 2 then 85 else 170 := by
  by_cases hs : rate = .r6300 ∧ (pitchLagOf code).toNat < subframeLen - 2
  · rw [codedGain, gainOperand, if_pos hs, if_pos hs]
  · rw [codedGain, gainOperand, if_neg hs, if_neg hs]

/-- R175, R178, R237: a header without a forbidden code leaves records in range. -/
theorem headerRecord_ok {rom : Rom} {rate : Rate} (hrom : rate = .r5300 → HarmonicLagsOk rom) {code : BitVec 7} {w : BitVec 12}
    (hcode : pitchCodeOk code = true) (hgain : gainInTable rate code w = true) (lag : BitVec 2) (grid : BitVec 1) (sf : Subframe) :
    RecordOk rom rate (pitchLagOf code).toNat (headerRecord rate code w lag grid sf) := by
  obtain ⟨hgainw, hampw⟩ := writeGain_toNat hgain sf
  obtain ⟨_, _, hamp⟩ := gainWordDecodes rate (pitchLagOf code).toNat w
  have hlag : (pitchLagOf code).toNat = code.toNat + 18 := pitchLagOf_toNat code
  have hmax : code.toNat ≤ 123 := of_decide_eq_true hcode
  have hfine := lag.isLt
  have hrow := gainInTable_iff.mp hgain
  refine ⟨?_, ?_, ?_, fun hrate => ?_⟩
  · change 1 ≤ ((pitchLagOf code).toNat : Int) + lag.toNat - 1 ∧ ((pitchLagOf code).toNat : Int) + lag.toNat - 1 ≤ 144
    omega
  · change (writeGain (codedGain rate code w) sf).adCbGain.toNat < _
    rwa [hgainw, ← codedGain_tableLen]
  · change (writeGain (codedGain rate code w) sf).ampIndex.toNat < 24
    rw [hampw]
    exact Nat.lt_of_le_of_lt hamp (by decide)
  · change 1 ≤ rd rom.pitchContrib (2 * (writeGain (codedGain rate code w) sf).adCbGain.toNat) + ((pitchLagOf code).toNat : Int)
      + lag.toNat - 1
    have hlen := gainOperand_tableLen_le rate (pitchLagOf code).toNat w
    have hcontrib := hrom hrate ⟨(codedGain rate code w).gain, Nat.lt_of_lt_of_le hrow hlen⟩
    rw [hgainw]
    dsimp only at hcontrib
    omega

/-! ### The excitation completes -/

theorem romRead_completes {w n : Nat} (table : Vector (BitVec w) n) {i : Nat} (h : i < n) : Completes (romRead table i) :=
  ⟨_, romRead_of_lt table h⟩

/-- R230–R237: a record in range. -/
theorem fixedCodebook_completes {rom : Rom} {rate : Rate} {lag : Nat} {sf : Subframe} (h : RecordOk rom rate lag sf) (s : Nat) :
    Completes (fixedCodebook rom rate s sf lag) := by
  cases rate with
  | r6300 =>
    change Completes (fcb63 rom s sf lag)
    unfold fcb63
    split
    · exact completes_ok _
    · exact completes_bind (romRead_completes _ h.amp) fun _ _ => completes_ok _
  | r5300 =>
    have hgain : sf.adCbGain.toNat < 170 := h.gain
    refine completes_bind (romRead_completes _ h.amp) fun g _ => ?_
    refine completes_bind (romRead_completes _ (by omega)) fun contrib hcontrib => ?_
    refine completes_bind (romRead_completes _ (by omega)) fun beta _ => ?_
    obtain rfl := romRead_ok hcontrib
    have hlag := h.harmonic rfl
    dsimp only
    split
    · rw [if_neg (by omega)]
      exact completes_ok _
    · exact completes_ok _

/-- R238–R240: a record in range. -/
theorem adaptiveCodebook_completes_of_record {rom : Rom} {rate : Rate} {lag : Nat} {sf : Subframe} (h : RecordOk rom rate lag sf)
    (e : ExcBuf) (base : Nat) : Completes (adaptiveCodebook rom rate e base lag sf) := by
  have tap {k : Nat} (hk : k < 5) : Completes (acbTap rom rate lag sf k) := acbTap_of_gain rom rate lag sf hk h.gain
  obtain ⟨taps, htaps⟩ : Completes (acbTaps rom rate lag sf) :=
    completes_bind (tap (by decide)) fun _ _ => completes_bind (tap (by decide)) fun _ _ => completes_bind (tap (by decide)) fun _ _ =>
      completes_bind (tap (by decide)) fun _ _ => completes_bind (tap (by decide)) fun _ _ => completes_ok _
  obtain ⟨hlo, hhi⟩ := h.lagRange
  rcases adaptiveCodebook_cases rom rate e base lag sf with ⟨hout, _⟩ | ⟨_, _, ⟨d, hd, _⟩ | ⟨_, _, hr⟩⟩
  · omega
  · cases htaps.symm.trans hd
  · exact ⟨_, hr⟩

/-- Every record of the state is in range. -/
def RecordsOk (rom : Rom) (c : Persistent) : Prop := ∀ s, s < 4 → RecordOk rom c.curRate (lagOf c s) (subframeAt c s)

theorem RecordsOk.congr {rom : Rom} {c d : Persistent} (h : RecordsOk rom c) (hrate : d.curRate = c.curRate)
    (hlags : d.pitchLag = c.pitchLag) (hrecords : d.subframe = c.subframe) : RecordsOk rom d := fun s hs => by
  rw [hrate, lagOf, hlags, subframeAt_congr hrecords]
  exact h s hs

/-- R241, R274, R375: a good ACTIVE frame whose records are in range. -/
theorem goodActive_completes {p : Params} {c : Persistent} (h : RecordsOk p.rom c) : Completes (goodActive p c) := by
  have hamp2 := (h 2 (by decide)).amp
  have hamp3 := (h 3 (by decide)).amp
  have sub (d : Persistent) (hd : RecordsOk p.rom d) (e : ExcBuf) {s : Nat} (hs : s < 4) : Completes (excitationSubframe p d e s) :=
    completes_bind (fixedCodebook_completes (hd s hs) s) fun _ _ =>
      completes_bind (adaptiveCodebook_completes_of_record (hd s hs) e _) fun _ _ => completes_ok _
  refine completes_bind (completes_bind (romRead_completes _ (by omega)) fun _ _ => completes_ok _) fun d hd => ?_
  obtain ⟨g, _, hd⟩ := bind_eq_ok.mp hd
  have hrecords : RecordsOk p.rom d := by
    cases hd
    exact h
  refine completes_bind ?_ fun _ _ => completes_ok _
  exact completes_bind (sub d hrecords _ (by decide)) fun _ _ => completes_bind (sub d hrecords _ (by decide)) fun _ _ =>
    completes_bind (sub d hrecords _ (by decide)) fun _ _ => sub d hrecords _ (by decide)

/-- R370 step 3: a good ACTIVE decode whose records and LSP values are in range. -/
theorem decodeActive_good_completes {p : Params} {c : Persistent} (h : RecordsOk p.rom c)
    (hlsp : InterpInTable p.rom.cosTab (lspDequant p.rom c.prevLsp c.lspIndex false) c.prevLsp) :
    Completes (decodeActive p false c) := by
  have hdequant : activeLsp p (countErasure false c) false = lspDequant p.rom c.prevLsp c.lspIndex false := rfl
  rw [← hdequant, ← countErasure_prevLsp false c] at hlsp
  refine completes_bind (lspInterp_completes hlsp) fun lpc _ => completes_bind ?_ fun _ _ => completes_ok _
  rw [activeExcitation, if_pos (by simp)]
  exact goodActive_completes (h.congr (by simp) (by simp) (by simp))

/-! ### What UNPACK of a frame leaves -/

/-- R180–R182: the record with a pulse position and its signs. -/
def withPulse (pos : BitVec 32) (sign : BitVec 8) (sf : Subframe) : Subframe := { sf with pulsePos := pos, pulseSign := sign }

/-- The pulse fields do not matter to the ranges. -/
theorem recordOk_withPulse {rom : Rom} {rate : Rate} {lag : Nat} {sf : Subframe} (h : RecordOk rom rate lag sf) (pos : BitVec 32)
    (sign : BitVec 8) : RecordOk rom rate lag (withPulse pos sign sf) 
    := ⟨h.lagRange, h.gain, h.amp, h.harmonic⟩

/-- The pulse fields of the four subframes. -/
structure PulseFields where
  pos : Fin 4 → BitVec 32
  sign : Fin 4 → BitVec 8

/-- R180–R182: the state with the pulse fields of its four records written. -/
def writePulses (c : Persistent) (f : PulseFields) : Persistent :=
  writePulse (writePulse (writePulse (writePulse c 0 (f.pos 0) (f.sign 0)) 1 (f.pos 1) (f.sign 1)) 2 (f.pos 2) (f.sign 2)) 3
    (f.pos 3) (f.sign 3)

theorem subframeAt_writePulses (c : Persistent) (f : PulseFields) (k : Fin 4) :
    subframeAt (writePulses c f) k = withPulse (f.pos k) (f.sign k) (subframeAt c k) := by
  unfold writePulses writePulse
  fin_cases k <;> simp (disch := decide) [subframeAt_setSubframe_other, withPulse]

@[simp] theorem writePulses_curRate (c : Persistent) (f : PulseFields) : (writePulses c f).curRate = c.curRate := by
  simp [writePulses, writePulse]

@[simp] theorem writePulses_lspIndex (c : Persistent) (f : PulseFields) : (writePulses c f).lspIndex = c.lspIndex := by
  simp [writePulses, writePulse]

@[simp] theorem writePulses_pitchLag (c : Persistent) (f : PulseFields) : (writePulses c f).pitchLag = c.pitchLag := by
  simp [writePulses, writePulse]

/-- What UNPACK of a good ACTIVE frame leaves: its header, then its pulses (R173–R182). -/
def FrameRead (rate : Rate) (hd : ActiveHeader) (f : PulseFields) (c d : Persistent) : Prop :=
  ∃ c0, HeaderRead rate hd c c0 ∧ d = writePulses c0 f

/-- The pulse fields of a FRAME63 (R180, R181). -/
def pulses63 (f : Frame63) : PulseFields where
  pos := ![pulsePos63 (posDigits f.posWord).1 16 f.posTail0.toNat, pulsePos63 (posDigits f.posWord).2.1 14 f.posTail1.toNat,
    pulsePos63 (posDigits f.posWord).2.2.1 16 f.posTail2.toNat, pulsePos63 (posDigits f.posWord).2.2.2 14 f.posTail3.toNat]
  sign := ![f.sign0.setWidth 8, f.sign1.setWidth 8, f.sign2.setWidth 8, f.sign3.setWidth 8]

/-- The pulse fields of a FRAME53 (R182). -/
def pulses53 (f : Frame53) : PulseFields where
  pos := ![f.pos0.setWidth 32, f.pos1.setWidth 32, f.pos2.setWidth 32, f.pos3.setWidth 32]
  sign := ![f.sign0.setWidth 8, f.sign1.setWidth 8, f.sign2.setWidth 8, f.sign3.setWidth 8]

theorem unpack63_ok {f : Frame63} {c d : Persistent} (h : unpack63 f c = .ok d) : FrameRead .r6300 f.header (pulses63 f) c d := by
  obtain ⟨c0, h0, h⟩ := bind_eq_ok.mp h
  exact ⟨c0, unpackHeader_ok h0, (Except.ok.inj h).symm⟩

theorem unpack53_ok {f : Frame53} {c d : Persistent} (h : unpack53 f c = .ok d) : FrameRead .r5300 f.header (pulses53 f) c d := by
  obtain ⟨c0, h0, h⟩ := bind_eq_ok.mp h
  exact ⟨c0, unpackHeader_ok h0, (Except.ok.inj h).symm⟩

/-- R175–R182: each record is the header's, with its pulses. -/
theorem subframe_writePulses {c0 : Persistent} {sf : Subframe} {f : PulseFields} {k : Fin 4} (h : subframeAt c0 k = sf) :
    (writePulses c0 f).subframe[k] = withPulse (f.pos k) (f.sign k) sf := by
  rw [← subframeAt_of_fin, subframeAt_writePulses, h]

/-- R173, R175, R176, R178, R179: the state holds the header's fields. -/
theorem FrameRead.headerHeld {rate : Rate} {hd : ActiveHeader} {f : PulseFields} {c d : Persistent} (h : FrameRead rate hd f c d) :
    HeaderHeld rate hd d := by
  obtain ⟨c0, hread, rfl⟩ := h
  obtain ⟨gain0, gain1, gain2, gain3⟩ := hread.gains
  have record0 : (writePulses c0 f).subframe[0] = _ := subframe_writePulses (k := 0) hread.record0
  have record1 : (writePulses c0 f).subframe[1] = _ := subframe_writePulses (k := 1) hread.record1
  have record2 : (writePulses c0 f).subframe[2] = _ := subframe_writePulses (k := 2) hread.record2
  have record3 : (writePulses c0 f).subframe[3] = _ := subframe_writePulses (k := 3) hread.record3
  have hlags := (writePulses_pitchLag c0 f).trans hread.pitchLag
  have hindex := (writePulses_lspIndex c0 f).trans hread.lspIndex
  have hlag (code : BitVec 7) : (pitchLagOf code).toNat = code.toNat + 18 := pitchLagOf_toNat code
  refine ⟨hindex, ?_, ?_, ?_⟩
  · rw [hlags]
    exact hlag hd.pitchCode0
  · rw [hlags]
    exact hlag hd.pitchCode1
  · rw [record0, record1, record2, record3]
    exact ⟨rfl, rfl, rfl, rfl, gainHeld_writeGain gain0 (subframeAt c 0), gainHeld_writeGain gain1 (subframeAt c 1),
      gainHeld_writeGain gain2 (subframeAt c 2), gainHeld_writeGain gain3 (subframeAt c 3), rfl, rfl, rfl, rfl⟩

theorem FrameRead.curRate {rate : Rate} {hd : ActiveHeader} {f : PulseFields} {c d : Persistent} (h : FrameRead rate hd f c d) :
    d.curRate = rate := by
  obtain ⟨c0, hread, rfl⟩ := h
  exact (writePulses_curRate c0 f).trans hread.curRate

/-- R175, R178, R237–R239: every record is in range. -/
theorem FrameRead.recordsOk {rom : Rom} {rate : Rate} {hd : ActiveHeader} {f : PulseFields} {c d : Persistent}
    (h : FrameRead rate hd f c d) (hrom : rate = .r5300 → HarmonicLagsOk rom) : RecordsOk rom d := by
  obtain ⟨c0, hread, rfl⟩ := h
  obtain ⟨code0, code1⟩ := hread.codes
  obtain ⟨gain0, gain1, gain2, gain3⟩ := hread.gains
  intro s hs
  rw [writePulses_curRate, hread.curRate, lagOf, writePulses_pitchLag, hread.pitchLag, subframeAt_writePulses c0 f ⟨s, hs⟩]
  refine recordOk_withPulse ?_ _ _
  match s with
  | 0 => exact hread.record0 ▸ headerRecord_ok hrom code0 gain0 _ _ _
  | 1 => exact hread.record1 ▸ headerRecord_ok hrom code0 gain1 _ _ _
  | 2 => exact hread.record2 ▸ headerRecord_ok hrom code1 gain2 _ _ _
  | 3 => exact hread.record3 ▸ headerRecord_ok hrom code1 gain3 _ _ _

/-- The records of `c` hold the pulse fields. -/
def PulsesHeld (f : PulseFields) (c : Persistent) : Prop :=
  ∀ k : Fin 4, c.subframe[k].pulsePos = f.pos k ∧ c.subframe[k].pulseSign = f.sign k

/-- R180–R182: the state holds the pulses. -/
theorem FrameRead.pulsesHeld {rate : Rate} {hd : ActiveHeader} {f : PulseFields} {c d : Persistent} (h : FrameRead rate hd f c d) :
    PulsesHeld f d := by
  obtain ⟨c0, _, rfl⟩ := h
  intro k
  rw [subframe_writePulses rfl]
  exact ⟨rfl, rfl⟩

/-- R109, R180: a digit of the position word stands above its tail. -/
theorem pulsePos63_toNat {digit shift tail : Nat} (hdigit : digit ≤ 10) (hshift : shift ≤ 16) (htail : tail < 2 ^ 16) :
    (pulsePos63 digit shift tail).toNat = digit * 2 ^ shift + tail := by
  have hpow : 2 ^ shift ≤ 2 ^ 16 := Nat.pow_le_pow_right (by decide) hshift
  have hmul : digit * 2 ^ shift ≤ 10 * 2 ^ 16 := Nat.mul_le_mul hdigit hpow
  rw [pulsePos63, BitVec.toNat_ofNat]
  exact Nat.mod_eq_of_lt (by omega)

/-- R109, R180, R181: what the pulse fields of a FRAME63 say of its operands. -/
theorem PulsesHeld.held63 {f : Frame63} {d : Persistent} (h : PulsesHeld (pulses63 f) d) : PulsesHeld63 f d := by
  obtain ⟨pos0, sign0⟩ : d.subframe[0].pulsePos = _ ∧ d.subframe[0].pulseSign = _ := h 0
  obtain ⟨pos1, sign1⟩ : d.subframe[1].pulsePos = _ ∧ d.subframe[1].pulseSign = _ := h 1
  obtain ⟨pos2, sign2⟩ : d.subframe[2].pulsePos = _ ∧ d.subframe[2].pulseSign = _ := h 2
  obtain ⟨pos3, sign3⟩ : d.subframe[3].pulsePos = _ ∧ d.subframe[3].pulseSign = _ := h 3
  rw [PulsesHeld63, pos0, pos1, pos2, pos3, sign0, sign1, sign2, sign3]
  have hword := f.posWord.isLt
  have digit0 : (posDigits f.posWord).1 = f.posWord.toNat / 810 := rfl
  have digit1 : (posDigits f.posWord).2.1 = f.posWord.toNat % 810 / 90 := rfl
  have digit2 : (posDigits f.posWord).2.2.1 = f.posWord.toNat % 90 / 9 := by
    change f.posWord.toNat % 810 % 90 / 9 = _
    omega
  have digit3 : (posDigits f.posWord).2.2.2 = f.posWord.toNat % 9 := by
    change f.posWord.toNat % 810 % 90 % 9 = _
    omega
  have tail1 := f.posTail1.isLt
  have tail3 := f.posTail3.isLt
  have hwidth {n m : Nat} (x : BitVec n) (hnm : n ≤ m) : (x.setWidth m).toNat = x.toNat := BitVec.toNat_setWidth_of_le hnm
  refine ⟨?_, ?_, ?_, ?_, hwidth f.sign0 (by decide), hwidth f.sign1 (by decide), hwidth f.sign2 (by decide),
    hwidth f.sign3 (by decide)⟩
  · exact (pulsePos63_toNat (by omega) (by decide) f.posTail0.isLt).trans (by rw [digit0])
  · exact (pulsePos63_toNat (by omega) (by decide) (by omega)).trans (by rw [digit1])
  · exact (pulsePos63_toNat (by omega) (by decide) f.posTail2.isLt).trans (by rw [digit2])
  · exact (pulsePos63_toNat (by omega) (by decide) (by omega)).trans (by rw [digit3])

/-- R182: what the pulse fields of a FRAME53 say of its operands. -/
theorem PulsesHeld.held53 {f : Frame53} {d : Persistent} (h : PulsesHeld (pulses53 f) d) : PulsesHeld53 f d := by
  obtain ⟨pos0, sign0⟩ : d.subframe[0].pulsePos = _ ∧ d.subframe[0].pulseSign = _ := h 0
  obtain ⟨pos1, sign1⟩ : d.subframe[1].pulsePos = _ ∧ d.subframe[1].pulseSign = _ := h 1
  obtain ⟨pos2, sign2⟩ : d.subframe[2].pulsePos = _ ∧ d.subframe[2].pulseSign = _ := h 2
  obtain ⟨pos3, sign3⟩ : d.subframe[3].pulsePos = _ ∧ d.subframe[3].pulseSign = _ := h 3
  rw [PulsesHeld53, pos0, pos1, pos2, pos3, sign0, sign1, sign2, sign3]
  have hwidth {n m : Nat} (x : BitVec n) (hnm : n ≤ m) : (x.setWidth m).toNat = x.toNat := BitVec.toNat_setWidth_of_le hnm
  exact ⟨hwidth f.pos0 (by decide), hwidth f.pos1 (by decide), hwidth f.pos2 (by decide), hwidth f.pos3 (by decide),
    hwidth f.sign0 (by decide), hwidth f.sign1 (by decide), hwidth f.sign2 (by decide), hwidth f.sign3 (by decide)⟩

/-! ### A good ACTIVE frame completes -/

/-- What a good ACTIVE frame of `size` bytes with header `hdr` and pulses `f` answers (R373–R376, R381). -/
structure GoodFrame (size : Nat) (rate : Rate) (hdr : ActiveHeader) (f : PulseFields) (s t : State) : Prop where
  past : t.core.pastFrameType = .active
  cur : t.core.curFrameType = .active
  curRate : t.core.curRate = rate
  prevLsp : t.core.prevLsp = goodLsp s hdr.lspIndex2 hdr.lspIndex1 hdr.lspIndex0
  erased : t.core.erasedFrames = 0
  seed : t.core.cngRandomSeed = 12345
  gain : t.core.interpGain.toInt = memoryGain s.params t.core
  header : HeaderHeld rate hdr t.core
  pulses : PulsesHeld f t.core
  regs : ∃ out, t.regs = reportDecode size false out s.regs
  status : byteAt t 0x003 = 0x00

/-- R274: the gain memory holds a table entry, which 32 bits can. -/
theorem toInt_memoryGain (p : Params) (c : Persistent) : (BitVec.ofInt 32 (memoryGain p c)).toInt = memoryGain p c := by
  obtain ⟨hlo, hhi⟩ := rd_range_16 p.rom.fixedCbGain (((subframeAt c 2).ampIndex.toNat + (subframeAt c 3).ampIndex.toNat) / 2)
  exact toInt_ofInt_of_fits16 hlo hhi

/-- The fields that UNPACK read stay what they are through the decode (R374–R376, R382). -/
theorem FrameRead.held_of_fields {rate : Rate} {hd : ActiveHeader} {f : PulseFields} {c d e : Persistent} (h : FrameRead rate hd f c d)
    (hindex : e.lspIndex = d.lspIndex) (hlags : e.pitchLag = d.pitchLag) (hrecords : e.subframe = d.subframe) :
    HeaderHeld rate hd e ∧ PulsesHeld f e := by
  rw [HeaderHeld, PulsesHeld, hindex, hlags, hrecords]
  exact ⟨h.headerHeld, h.pulsesHeld⟩

/-- R370 step 3, R381: the state that a good ACTIVE decode of what UNPACK read leaves. -/
theorem goodFrame_of_finish {size : Nat} {rate : Rate} {hdr : ActiveHeader} {f : PulseFields} {s : State} {d : Persistent}
    {j : SynthesisJob} (hframe : FrameRead rate hdr f s.core d) (hactive : d.curFrameType = .active)
    (hgood : goodLsp s hdr.lspIndex2 hdr.lspIndex1 hdr.lspIndex0 = lspDequant s.params.rom d.prevLsp d.lspIndex false)
    (hj : decodeActive s.params false d = .ok j) :
    GoodFrame size rate hdr f s { s with
      core := (finish s.params j).1, regs := reportDecode size false (finish s.params j).2 s.regs } := by
  obtain ⟨_, _, _, _, hcore⟩ := decodeActive_goodWrote hj
  obtain ⟨_, _, _, _, _, hfin, _⟩ := finish_core_formant s.params j
  rw [hcore, ← hgood] at hfin
  generalize (finish s.params j).1 = e, (finish s.params j).2 = out at hfin
  have hrecords : e.subframe = d.subframe := by rw [hfin]
  have hpast : e.pastFrameType = .active := by rw [hfin]; exact hactive
  have hgain : e.interpGain = BitVec.ofInt 32 (memoryGain s.params d) := by rw [hfin]
  rw [← memoryGain_congr s.params hrecords] at hgain
  obtain ⟨hheader, hpulses⟩ := hframe.held_of_fields (e := e) (by rw [hfin]) (by rw [hfin]) hrecords
  exact {
    past := hpast
    cur := by rw [hfin]; exact hactive
    curRate := by rw [hfin]; exact hframe.curRate
    prevLsp := by rw [hfin]
    erased := by rw [hfin]
    seed := by rw [hfin]
    gain := (congrArg BitVec.toInt hgain).trans (toInt_memoryGain s.params e)
    header := hheader
    pulses := hpulses
    regs := ⟨out, rfl⟩
    status := (byteAt_status_decoded hpast).trans (by decide) }

/-- R370: a well-formed ACTIVE frame inside the tables goes on as a good frame. -/
theorem exec_good_completes {i : Instr} {unpack : Persistent → Unpacked} (hi : ActiveUnpack i unpack) {rate : Rate} {hdr : ActiveHeader}
    {f : PulseFields} (hread : ∀ c d, unpack c = .ok d → FrameRead rate hdr f c d) {s : State} (hlen : i.size ≤ s.regs.inLen.toNat)
    (hwf : i.wellFormed = true) (hrom : rate = .r5300 → HarmonicLagsOk s.params.rom)
    (hlsp : InterpInTable s.params.rom.cosTab (goodLsp s hdr.lspIndex2 hdr.lspIndex1 hdr.lspIndex0) s.core.prevLsp) :
    ∃ t, exec i s = .next t ∧ GoodFrame i.size rate hdr f s t := by
  have hbad : badFrame (unpack s.core) = false := by rw [hi.bad, hwf]; rfl
  obtain ⟨d, hd, _, hremapped⟩ | ⟨_, _, hfails, _⟩ | ⟨_, _, hfails, _⟩ := remapped_cases (unpack s.core)
  · have hactive := hi.active s.core d hd
    have hframe := hread s.core d hd
    obtain ⟨_, _, _, _, _, hwrote⟩ := remapped_wrote hi.frame s.core
    rw [hremapped] at hwrote
    have hprev : d.prevLsp = s.core.prevLsp := by rw [hwrote]
    have hgood : goodLsp s hdr.lspIndex2 hdr.lspIndex1 hdr.lspIndex0 = lspDequant s.params.rom d.prevLsp d.lspIndex false := by
      rw [hprev, hframe.headerHeld.1, goodLsp]
    rw [hgood, ← hprev] at hlsp
    obtain ⟨j, hj⟩ := decodeActive_good_completes (hframe.recordsOk hrom) hlsp
    have hrun := runFrame_of_decodeByType (unpack := unpack) hlen (by rw [hbad, hremapped, decodeByType, hactive]; exact hj)
    rw [hbad] at hrun
    exact ⟨_, (hi.exec s).trans (toOutcome_eq_next.mpr hrun), goodFrame_of_finish hframe hactive hgood hj⟩
  · cases hfails.symm.trans hbad
  · cases hfails.symm.trans hbad

theorem exec_frame63_completes {f : Frame63} {s : State} (h : Ready63 f s) :
    ∃ t, exec (.frame63 f) s = .next t ∧ GoodFrame 24 .r6300 f.header (pulses63 f) s t := by
  obtain ⟨hlen, hwf, hlsp⟩ := h
  exact exec_good_completes (activeUnpack_frame63 f) (fun _ _ => unpack63_ok) hlen hwf nofun hlsp

theorem exec_frame53_completes {f : Frame53} {s : State} (h : Ready53 f s) :
    ∃ t, exec (.frame53 f) s = .next t ∧ GoodFrame 20 .r5300 f.header (pulses53 f) s t := by
  obtain ⟨hlen, hwf, hrom, hlsp⟩ := h
  exact exec_good_completes (activeUnpack_frame53 f) (fun _ _ => unpack53_ok) hlen hwf (fun _ => hrom) hlsp

/-- Settles O12: UNPACK reads every field into range, so the good decode completes and leaves those fields. -/
theorem frame63Completes : Obligations.Frame63Completes := by
  intro f s hready
  obtain ⟨t, hexec, h⟩ := exec_frame63_completes hready
  obtain ⟨out, hregs⟩ := h.regs
  exact ⟨t, hexec, h.past, h.cur, h.curRate, h.prevLsp, h.erased, h.seed, h.gain, h.header, h.pulses.held63, by rw [hregs]; rfl,
    by rw [hregs]; rfl, h.status⟩

/-- Settles O13: as for FRAME63, with every harmonic lag at least 1. -/
theorem frame53Completes : Obligations.Frame53Completes := by
  intro f s hready
  obtain ⟨t, hexec, h⟩ := exec_frame53_completes hready
  obtain ⟨out, hregs⟩ := h.regs
  exact ⟨t, hexec, h.past, h.cur, h.curRate, h.prevLsp, h.erased, h.seed, h.gain, h.header, h.pulses.held53, by rw [hregs]; rfl,
    by rw [hregs]; rfl, h.status⟩

/-! ### DECODE completes -/

/-- Settles O14: DECODE runs the frame in IN_BYTES, which completes for each of the four types. -/
theorem decodeCompletes : Obligations.DecodeCompletes := by
  intro s
  have hrun (i : Instr) (hdec : decode .frame s.regs.inBytes.toList = .ok i) : exec .decode s = exec i s :=
    decodeRunsTheFrameInInBytes s i hdec
  refine ⟨fun f hdec hready => ?_, fun f hdec hready => ?_, fun f hdec hready => ?_, fun b hdec hready => ?_⟩
  · obtain ⟨t, hexec, h⟩ := exec_frame63_completes hready
    obtain ⟨out, hregs⟩ := h.regs
    exact ⟨t, (hrun _ hdec).trans hexec, by simp [hregs, reportDecode, h.past]⟩
  · obtain ⟨t, hexec, h⟩ := exec_frame53_completes hready
    obtain ⟨out, hregs⟩ := h.regs
    exact ⟨t, (hrun _ hdec).trans hexec, by simp [hregs, reportDecode, h.past]⟩
  · obtain ⟨j, hj, hexec⟩ := exec_sid_completes hready
    have hpast := (finish_noiseWrote hj).fields.past.trans (sidUnpacked_curFrameType f s.core)
    exact ⟨_, (hrun _ hdec).trans hexec, rfl, rfl, rfl, rfl, hpast⟩
  · obtain ⟨j, hj, hexec⟩ := exec_untx_completes b hready
    exact ⟨_, (hrun _ hdec).trans hexec, rfl, rfl, rfl, rfl, (finish_noiseWrote hj).fields.past⟩

end Sys2Proof.Proofs
end
